-- ==== Sys2Proof/Word.lean ====
section
/-! DEFINITION. The words of the model: bytes of the lines, the 32-bit numbers that wrap, and the 64-bit bar sets
(spec/00_scope.md, Conventions). Everything else the manual counts is a natural number or an integer. -/

namespace Sys2Proof

/-- One byte of a line. -/
abbrev Byte := BitVec 8

/-- An unsigned 32-bit number that wraps modulo 2^32: a tag, the pass count, the feed counter (00, Wrapping). -/
abbrev Tag := BitVec 32

/-- A bar set: the least significant bit stands for bar 1 (00, Conventions). -/
abbrev BarSet := BitVec 64

/-- A CRC register or digest (03, R41). -/
abbrev Crc := BitVec 16

end Sys2Proof
end

