-- ==== Sys2Proof/Syntax.lean ====
section
/-! DEFINITION. The commands of the part: one constructor of `Instr` for each row of spec/opcode_table.json, with the
operands the row's rule gives it. The request fields stand in the order of spec/10, section 10.7. -/

namespace Sys2Proof

/-- The seventeen fields of the machine record, in index order (02, section 2.2). -/
structure MachineRecord where
  pitch : Nat
  indexAngle : Nat
  tolerance : Nat
  ovStart : Nat
  ovEnd : Nat
  ulStart : Nat
  ulEnd : Nat
  dmax : Nat
  vmax : Nat
  margin : Nat
  stopDetect : Nat
  followLimit : Nat
  inPosition : Nat
  settleTimeout : Nat
  energizeTime : Nat
  enableTimeout : Nat
  holdDelay : Nat
  deriving DecidableEq, Repr

/-- The six values of a bar profile, fields 1 to 6 of SET PROFILE (02, section 2.3). -/
structure Profile where
  accel : Nat
  speed : Nat
  travel : Nat
  homing : Nat
  search : Nat
  zeroOffset : Nat
  deriving DecidableEq, Repr

/-- One entry of ASSIGN BARS as it is sent: the profile byte is 255 for ABSENT (10, 10.7). -/
structure AssignEntry where
  bar : Nat
  profile : Nat
  deriving DecidableEq, Repr

/-- One cell: front and back position, 255 and 255 for the rest marker (03, R34). -/
structure Cell where
  front : Nat
  back : Nat
  deriving DecidableEq, Repr

/-- One step of a sequence table: a block id and a repeat count (04, R51). -/
structure SeqStep where
  block : Nat
  reps : Nat
  deriving DecidableEq, Repr

/-- A place in a sequence table: step, repeat and course, counted from 0 (04, R58). -/
structure FeedCursor where
  step : Nat
  rep : Nat
  course : Nat
  deriving DecidableEq, Repr

/-- One target of LOCATE: a bar and a front position, 255 for don't-care (04, R66). -/
structure LocateTarget where
  bar : Nat
  front : Nat
  deriving DecidableEq, Repr

/-- The levels of the encoder signals A and B (01, R3). -/
structure Levels where
  a : Bool
  b : Bool
  deriving DecidableEq, Repr

/-- The four drive lines: A for bars 1 to 16, B to 32, C to 48, D to 64 (02, section 2.4). -/
inductive DriveLine where
  | lineA | lineB | lineC | lineD
  deriving DecidableEq, Repr

/-- One command of the part: one constructor for each row of spec/opcode_table.json. A `tag` is the request tag that the
reply echoes (10, R181). A `dt` is the time in us since the step before (log 1). -/
inductive Instr where
  | ident (tag : Tag)
  | status (tag : Tag)
  | fetchNotice (tag : Tag)
  | reset (tag : Tag) (scope : Nat)
  | motionReset
  | fullReset
  | setMachine (tag : Tag) (record : MachineRecord)
  | setProfile (tag : Tag) (number : Nat) (values : Profile)
  | assignBars (tag : Tag) (entries : List AssignEntry)
  | readSettings (tag : Tag)
  | defineBlock (tag : Tag) (id courses : Nat) (bars : List Nat)
  | blockData (tag : Tag) (id first : Nat) (cells : List Cell)
  | dropBlock (tag : Tag) (id : Nat)
  | blockInfo (tag : Tag) (id : Nat)
  | readBlockStart (tag : Tag) (id course : Nat)
  | readBlockNext (tag : Tag)
  | checkComplete
  | writeSequence (tag : Tag) (steps : List SeqStep)
  | switchSequenceNow (tag : Tag)
  | switchSequenceTimed (tag : Tag) (mode : Nat)
  | setCursor (tag : Tag) (place : FeedCursor)
  | locate (tag : Tag) (start : FeedCursor) (stride : Nat) (targets : List LocateTarget)
  | locateDone
  | openStream (tag : Tag) (first : Tag) (bars : List Nat)
  | courses (tag : Tag) (count : Nat) (records : List Byte)
  | endStream (tag : Tag)
  | flushCourses (tag : Tag)
  | reference (tag : Tag) (bars : BarSet) (extension : Nat)
  | jog (tag : Tag) (bar target : Nat)
  | setRunState (tag : Tag) (target : Nat)
  | getPosition (tag : Tag)
  | planReport (tag : Tag)
  | unknownKind (tag : Tag) (kind : Nat)
  | byteReceived (value : Byte) (stopHigh : Bool) (dt : Nat)
  | frameGapTimeout
  | replySent
  | encoderCount (levels : Levels) (dt : Nat)
  | encoderError (dt : Nat)
  | indexArrival (dt : Nat)
  | stopDetect
  | exchange (bar : Nat)
  | statusFrame (line : DriveLine) (bytes : List Byte)
  | driveLost (bar : Nat)
  | enableTimeout (bar : Nat)
  | energizeTimeEnd (bar : Nat)
  | holdDelayExpiry (bar : Nat)
  | jogTargetReached (bar : Nat)
  | settleTimeout (bar : Nat)
  | zeroMoveComplete (bar : Nat)
  | allowanceTimeout
  | aligned (bar : Nat)
  | enterHoldFromStandby
  | alignmentStart
  | enterRun
  | enterHold
  | enterStandby
  | permitFrame
  | powerOn (rate1 rate0 : Bool)
  | pinReset
  | resetRelease (levels : Levels)
  | startUpEnd
  deriving DecidableEq, Repr

end Sys2Proof
end

