-- ==== Sys2Proof/Config.lean ====
section
/-! DEFINITION. What the manual fixes for the part (capacities, defaults, times) and what it leaves open: the free values,
opaque constants that nothing in Lean can evaluate, each applied to the model's counter of free values (`State.draws`). -/

namespace Sys2Proof.Config

/-- FREE VALUE (log 8). Of an OVERSPEED and the lists' own report at one forward crossing, "either may be taken first"
(09, R166): whether the overspeed check is taken first. -/
opaque overspeedFirst : Nat → Bool

/-- FREE VALUE (log 9). Where one event ends both jogs and a referencing, the order of their notices is not stated
(08, R146, R151): whether the jogs end first. -/
opaque jogsEndFirst : Nat → Bool

/-- FREE VALUE (log 10). A number the manual leaves open: the "setpoint the check compared against" of a channel fault that
no comparison raised (07, R124). -/
opaque openValue : Nat → Int

/-- The defaults of the machine record (02, section 2.2). -/
def defaultMachine : MachineRecord where
  pitch := 1058
  indexAngle := 0
  tolerance := 2
  ovStart := 900
  ovEnd := 1500
  ulStart := 2300
  ulEnd := 3700
  dmax := 250
  vmax := 1200
  margin := 60
  stopDetect := 200
  followLimit := 400
  inPosition := 50
  settleTimeout := 100
  energizeTime := 50
  enableTimeout := 500
  holdDelay := 2000

/-- The defaults of every profile (02, section 2.3). -/
def defaultProfile : Profile where
  accel := 100
  speed := 1500
  travel := 47
  homing := 40
  search := 60000
  zeroOffset := 2000

/-- Shaft counts in one course (00, Conventions). -/
def counts : Nat := 4000

/-- Cells of the pattern store (00, Capacities). -/
def storeCells : Nat := 262144

/-- Places of the course queue. -/
def queueRoom : Nat := 32

/-- Places of history and replay stack together. -/
def historyRoom : Nat := 16

/-- Places of the notice queue. -/
def noticeRoom : Nat := 32

/-- Places of the receive buffer. -/
def bufferRoom : Nat := 2

/-- The largest drive coordinate (07, R116). -/
def coordMax : Int := 8388607

/-- The smallest drive coordinate (07, R116). -/
def coordMin : Int := -8388608

/-- One drive exchange, in us (07, R118). -/
def exchangeTime : Nat := 250

/-- The start-up time, in us (11, R192). -/
def startUpTime : Nat := 20000

/-- The gap limit inside a frame, in us (10, R176). -/
def gapLimit : Nat := 1000

end Sys2Proof.Config
end

