-- ==== Sys2Proof/Machine/State.lean ====
section
/-! DEFINITION. The state of the part, block by block, as plain data; the reasons a step can stop; and `State.reset`. Each
field cites the rule that names it; reset values are those of the manual's reset tables (R18, R32, R50, R70, R95, R113, R137,
R138, R174, R185), and log 16 where the manual gives none. -/

namespace Sys2Proof.Machine

/-- Why a step stops with a fault. -/
inductive Fault where
  /-- Raised by a drive-event command (EXCHANGE and its companions) that names a bar outside 1 to 64: there is no such
  channel (07, R114). Safe: no signal of the part can bring it about. -/
  | noSuchBar (bar : Nat)
  deriving DecidableEq, Repr

/-- Why a step is refused. -/
inductive Refusal where
  /-- A row of the table that has no meaning yet, raised by `exec`'s own arm. Safe: the machine stops. No arm answers it. -/
  | notModelled (mnemonic : String)
  deriving DecidableEq, Repr

/-! ### Shaft tracker (01) -/

/-- The sync states, coded 0x00 to 0x03 in this order (R17). -/
inductive SyncState where
  | noSignal | seekingIndex | checking | locked
  deriving DecidableEq, Repr

/-- The direction of the last count (R1). -/
inductive Direction where
  | forward | backward
  deriving DecidableEq, Repr

/-- The underlap side (R2). -/
inductive Side where
  | upper | lower
  deriving DecidableEq, Repr

/-- The causes of SYNC_CHANGE, coded 0x01 to 0x06 in this order (R17). -/
inductive SyncCause where
  | firstCount | indexFound | indexConfirmed | indexMismatch | encoderError | settingsChanged
  deriving DecidableEq, Repr

/-- What the shaft tracker holds (R18). -/
structure Tracker where
  sync : SyncState
  angle : Nat
  direction : Direction
  travel : Int
  side : Option Side
  levels : Levels
  stopped : Bool
  /-- The instant of the last count: the stop timer is the clock less this (R15). -/
  countedAt : Nat
  courseStart : Option Nat
  valid : Bool
  /-- The last measured speed; none is "no measurement" (R16). -/
  speed : Option Nat
  deriving DecidableEq, Repr

/-! ### Pattern store (03) -/

/-- The states of a block entry, coded 0x00 to 0x03 (R33). -/
inductive BlockState where
  | empty | loading | checking | ready
  deriving DecidableEq, Repr

/-- One entry of the block table (R33). The cells stored so far give the next expected index, and the course count times
the bars gives the cell count, so neither is held twice. -/
structure Block where
  state : BlockState
  courses : Nat
  bars : List Nat
  cells : List Cell
  digest : Option Crc
  pins : Nat
  deriving DecidableEq, Repr

/-- The readback cursor (R47). -/
structure ReadCursor where
  block : Nat
  index : Nat
  deriving DecidableEq, Repr

/-- What the pattern store holds (R33, R35, R40, R49). -/
structure Store where
  blocks : List Block
  free : Nat
  checkQueue : List Nat
  checkFrom : Nat
  readCursor : Option ReadCursor
  deriving DecidableEq, Repr

/-! ### Sequence player (04) -/

/-- How a switch takes effect, coded 0x00 to 0x02 (section 4.3). -/
inductive SwitchMode where
  | now | atStepEnd | atPassEnd
  deriving DecidableEq, Repr

/-- A locate in flight (R66 to R68). -/
structure Search where
  start : FeedCursor
  stride : Nat
  targets : List LocateTarget
  startedAt : Nat
  deriving DecidableEq, Repr

/-- What the sequence player holds (R70). -/
structure Player where
  active : Option (List SeqStep)
  pending : Option (List SeqStep)
  recorded : Option SwitchMode
  cursor : FeedCursor
  pass : Tag
  fed : Tag
  feedStopped : Bool
  search : Option Search
  deriving DecidableEq, Repr

/-! ### Course lists and planner (05, 06) -/

/-- Where a course record came from (R71). -/
inductive Origin where
  | stream
  | player (place : FeedCursor) (pass : Tag)
  deriving DecidableEq, Repr

/-- The lap pair of one bar in a course record (R71). -/
structure BarLap where
  bar : Nat
  front : Nat
  back : Nat
  deriving DecidableEq, Repr

/-- A bar's two moves in a course (R97). -/
inductive BarMove where
  | overlap | underlap
  deriving DecidableEq, Repr

/-- What set a ceiling (R96, R101). -/
inductive LimitSource where
  | vmax
  | cap
  | bar (bar : Nat) (move : BarMove)
  deriving DecidableEq, Repr

/-- The ceiling entry of a record (R96). -/
structure Ceiling where
  value : Nat
  source : LimitSource
  deriving DecidableEq, Repr

/-- A course record (R71, R96). -/
structure CourseRecord where
  tag : Tag
  origin : Origin
  cap : Option Nat
  endMark : Bool
  laps : List BarLap
  ceiling : Option Ceiling
  infeasible : Bool
  deriving DecidableEq, Repr

/-- The list source (R75). -/
inductive Source where
  | player | stream
  deriving DecidableEq, Repr

/-- What the course lists hold (R73, R78, R83, R85). The history is oldest first, the head of `replay` is its top and the
head of `queue` is the oldest record appended. -/
structure Lists where
  current : Option CourseRecord
  history : List CourseRecord
  replay : List CourseRecord
  queue : List CourseRecord
  bound : Bool
  behind : Nat
  ahead : Nat
  underrunMark : Bool
  starvedMark : Bool
  endMark : Bool
  source : Source
  streamOpen : Bool
  streamBars : List Nat
  expected : Option Tag
  endSeen : Bool
  deriving DecidableEq, Repr

/-- The permit's limiting term (R106). -/
inductive LimitTerm where
  | none
  | ceiling (index : Nat) (tag : Tag) (source : LimitSource)
  | tail (index : Nat)
  deriving DecidableEq, Repr

/-- What the planner holds on its own (R96). -/
structure Planner where
  permit : Nat
  term : LimitTerm
  deriving DecidableEq, Repr

/-! ### Bar channels (07, 08) -/

/-- The channel states, coded 0x00 to 0x09 (R114). -/
inductive ChannelState where
  | absent | off | energizing | idle | idleReduced | jogging | referencing | aligning | following | faulted
  deriving DecidableEq, Repr

/-- The phases of referencing (08, section 8.2). -/
inductive RefPhase where
  | leave | search | zero
  deriving DecidableEq, Repr

/-- The drive views, coded 0x00 to 0x03 (R114). -/
inductive DriveView where
  | unknown | ready | notReady | silent
  deriving DecidableEq, Repr

/-- A drive status: ready, reference switch, fault code and actual position (R119, R189). -/
structure DriveStatus where
  ready : Bool
  switch : Bool
  fault : Nat
  actual : Int
  deriving DecidableEq, Repr

/-- A move that waits for energizing to end (R127). -/
inductive PendingMove where
  | jog | referencing | alignment
  deriving DecidableEq, Repr

/-- A jog, from its acceptance to its end: target index, target coordinate and move time (R149). -/
structure Jog where
  target : Nat
  coord : Int
  time : Nat
  deriving DecidableEq, Repr

/-- A timed move: start, target, move time and the exchanges that have carried it so far (R134, R143, R149). -/
structure TimedMove where
  start : Int
  target : Int
  time : Nat
  sent : Nat
  deriving DecidableEq, Repr

/-- One bar channel (R114). -/
structure Channel where
  state : ChannelState
  phase : Option RefPhase
  referenced : Bool
  refPoint : Option Int
  setpoint : Int
  sentNew : Int
  sentOld : Int
  lastTarget : Nat
  view : DriveView
  last : Option DriveStatus
  missed : Nat
  taken : Bool
  exchanging : Bool
  readySeen : Bool
  enableTimer : Option Nat
  energizeTimer : Option Nat
  holdTimer : Option Nat
  settleTimer : Option Nat
  pendingMove : Option PendingMove
  jog : Option Jog
  move : Option TimedMove
  limit : Int
  limitSent : Nat
  aligned : Bool
  exchangeAt : Nat
  frame : List Byte
  deriving DecidableEq, Repr

/-- The referencing record (R138). -/
structure Referencing where
  selected : BarSet
  remaining : BarSet
  found : BarSet
  outcomes : Nat
  startedAt : Nat
  seconds : Nat
  deriving DecidableEq, Repr

/-! ### Run controller (09) -/

/-- The run states, coded 0x00 to 0x03 (R152). -/
inductive RunState where
  | standby | hold | run | halt
  deriving DecidableEq, Repr

/-- A requested state (R152): HALT is no target. -/
inductive Target where
  | standby | hold | run
  deriving DecidableEq, Repr

/-- The kinds of the last reset, coded 0x00 to 0x03 (R172). -/
inductive ResetCause where
  | powerOn | resetPin | resetFull | resetMotion
  deriving DecidableEq, Repr

/-- The causes of a halt, coded 0x01 to 0x08 (R166); `shaftMoved` 0x09 is a cause of STATE_FAILED alone (R171). -/
inductive Cause where
  | underrun | overspeed | syncLost | encoderError | reverseLimit | barFollow | driveFault | driveLost | shaftMoved
  deriving DecidableEq, Repr

/-- The halt record (R167). -/
structure HaltRecord where
  cause : Cause
  detail : Nat
  bar : Nat
  tag : Tag
  angle : Nat
  speed : Option Nat
  deriving DecidableEq, Repr

/-- What the run controller holds (R152). -/
structure RunControl where
  state : RunState
  requested : Option Target
  waiting : Bool
  changing : Bool
  badRequest : Bool
  halt : Option HaltRecord
  published : Nat
  peak : Nat
  resetCause : ResetCause
  deriving DecidableEq, Repr

/-- The permit line (R155): whether a frame has fallen due, the bytes sent last, and until when the line carries them. -/
structure PermitLine where
  due : Bool
  frame : List Byte
  busyUntil : Nat
  deriving DecidableEq, Repr

/-! ### Control link (10) -/

/-- The scope of a RESET (R173). -/
inductive Scope where
  | motion | full
  deriving DecidableEq, Repr

/-- A request as the port hands it on: the kinds of 10.7 with their fields, and the two that the port itself refuses
(R180). -/
inductive Request where
  | ident
  | status
  | fetchNotice
  | reset (scope : Nat)
  | setMachine (record : MachineRecord)
  | setProfile (number : Nat) (values : Profile)
  | assignBars (entries : List AssignEntry)
  | readSettings
  | defineBlock (id courses : Nat) (bars : List Nat)
  | blockData (id first : Nat) (cells : List Cell)
  | dropBlock (id : Nat)
  | blockInfo (id : Nat)
  | readBlockStart (id course : Nat)
  | readBlockNext
  | writeSequence (steps : List SeqStep)
  | switchSequence (mode : Nat)
  | setCursor (place : FeedCursor)
  | locate (start : FeedCursor) (stride : Nat) (targets : List LocateTarget)
  | openStream (first : Tag) (bars : List Nat)
  | courses (count : Nat) (records : List Byte)
  | endStream
  | flushCourses
  | reference (bars : BarSet) (extension : Nat)
  | jog (bar target : Nat)
  | setRunState (target : Nat)
  | getPosition
  | planReport
  | unknown (kind : Nat)
  | badLength (kind : Nat)
  deriving DecidableEq, Repr

/-- The result codes, 0x00 to 0x16 in this order (10, section 10.3). -/
inductive Result where
  | ok | unknownKind | badLength | badField | wrongState | busy | blockExists | noSuchBlock | storeFull | outOfOrder
  | badCell | blockNotReady | blockInUse | noReadCursor | queueFull | tagGap | noStream | badPosition | noticePending
  | notReferenced | shaftMoving | registeredBad | noSequence
  deriving DecidableEq, Repr

/-- A notice's kind with its extra field (10, section 10.7). -/
inductive Report where
  | stateReached (faulted : BarSet)
  | stateFailed (target : Target) (changing : Bool) (after : RunState) (detail : Nat)
  | halted (detail : Nat) (speed : Option Nat) (peak : Nat) (requested : Option Target)
  | furtherFault (detail : Nat) (speed : Option Nat) (peak : Nat) (requested : Option Target)
  | barFault (before : ChannelState) (detail : Nat) (error : Nat) (compared : Int)
  | driveChange (before : DriveView) (fault : Nat) (switch : Bool) (actual : Int)
  | jogDone (target : Nat) (difference : Int) (time : Nat)
  | referenceDone (found : BarSet)
  | syncChange (before : SyncState) (cause : SyncCause) (angleBefore : Nat)
  | sequenceSwitched (pass : Tag) (steps : Nat)
  | locateDone (place : FeedCursor) (visited : Nat)
  | feedStopped (place : FeedCursor) (block : Nat)
  | starved (source : Source) (history : Nat) (feedStopped : Bool)
  | infeasibleCourse (distance window time : Nat)
  | runEnd (source : Source) (history : Nat)
  | linkOverrun (tag : Tag) (kind : Nat)
  | blockReady (digest : Crc) (courses cells : Nat)
  deriving DecidableEq, Repr

/-- A notice record: its six fields, the kind being the constructor of `report` (R182). -/
structure Notice where
  report : Report
  detail : Nat
  subject : Nat
  tag : Tag
  angle : Nat
  deriving DecidableEq, Repr

/-- A reply frame: the request's tag, the reply's kind and its payload, header first (R181). -/
structure ReplyFrame where
  tag : Tag
  kind : Nat
  payload : List Byte
  deriving DecidableEq, Repr

/-- The phases of the receiver (R176). -/
inductive RxPhase where
  | hunt | length | body | check
  deriving DecidableEq, Repr

/-- The receiver: its phase, the bytes of the frame after its start byte, and the instant of the last byte (R176). -/
structure Receiver where
  phase : RxPhase
  bytes : List Byte
  lastAt : Nat
  deriving DecidableEq, Repr

/-- A request in the receive buffer (R177). -/
structure Waiting where
  tag : Tag
  request : Request
  deriving DecidableEq, Repr

/-- What the control link port holds (R175 to R185, R191). -/
structure Link where
  rate : Nat
  rx : Receiver
  buffer : List Waiting
  tx : Option ReplyFrame
  txUntil : Nat
  resetOwed : Option Scope
  notices : List Notice
  overflow : Bool
  deriving DecidableEq, Repr

/-- Held in reset (and whether the hold began with the application of supply), in the start-up time, or running
(11, R192). -/
inductive Power where
  | held (bySupply : Bool)
  | startUp (ends : Nat)
  | running
  deriving DecidableEq, Repr

end Sys2Proof.Machine

namespace Sys2Proof.Machine

/-- The whole part. `pending`, `now` and `draws` are the model's own: the commands that wait, a clock in us, and the count
of free values used (log 1, 8). -/
structure State where
  pending : List Instr
  now : Nat
  draws : Nat
  power : Power
  tracker : Tracker
  machine : MachineRecord
  profiles : List Profile
  assign : List (Option Nat)
  store : Store
  player : Player
  lists : Lists
  planner : Planner
  channels : List Channel
  referencing : Option Referencing
  run : RunControl
  permitLine : PermitLine
  link : Link
  deriving DecidableEq, Repr

/-! ### The state after reset, block by block -/

/-- The tracker after power-on, pin and full reset (R18). -/
def Tracker.initial (levels : Levels) (now : Nat) : Tracker where
  sync := .noSignal
  angle := 0
  direction := .forward
  travel := 0
  side := none
  levels := levels
  stopped := false
  countedAt := now
  courseStart := none
  valid := false
  speed := none

/-- An EMPTY block entry (R33). -/
def Block.vacant : Block where
  state := .empty
  courses := 0
  bars := []
  cells := []
  digest := none
  pins := 0

/-- The store after power-on, pin and full reset (R50). -/
def Store.initial : Store where
  blocks := List.replicate 128 Block.vacant
  free := Config.storeCells
  checkQueue := []
  checkFrom := 0
  readCursor := none

/-- The player after power-on, pin and full reset (R70). -/
def Player.initial : Player where
  active := none
  pending := none
  recorded := none
  cursor := ⟨0, 0, 0⟩
  pass := 0
  fed := 0
  feedStopped := false
  search := none

/-- The lists after power-on, pin and full reset (R95). -/
def Lists.initial : Lists where
  current := none
  history := []
  replay := []
  queue := []
  bound := false
  behind := 0
  ahead := 0
  underrunMark := false
  starvedMark := false
  endMark := false
  source := .player
  streamOpen := false
  streamBars := []
  expected := none
  endSeen := false

/-- The planner after every reset (R113). -/
def Planner.initial : Planner where
  permit := 0
  term := .none

/-- A channel after power-on, pin and full reset (R137). -/
def Channel.initial : Channel where
  state := .absent
  phase := none
  referenced := false
  refPoint := none
  setpoint := 0
  sentNew := 0
  sentOld := 0
  lastTarget := 0
  view := .unknown
  last := none
  missed := 0
  taken := false
  exchanging := false
  readySeen := false
  enableTimer := none
  energizeTimer := none
  holdTimer := none
  settleTimer := none
  pendingMove := none
  jog := none
  move := none
  limit := 0
  limitSent := 0
  aligned := false
  exchangeAt := 0
  frame := []

/-- The run controller after every reset, but for its cause (R174). -/
def RunControl.initial (cause : ResetCause) : RunControl where
  state := .standby
  requested := none
  waiting := false
  changing := false
  badRequest := false
  halt := none
  published := 0
  peak := 0
  resetCause := cause

/-- The permit line with nothing due. -/
def PermitLine.initial : PermitLine where
  due := false
  frame := []
  busyUntil := 0

/-- The receiver in HUNT (R178). -/
def Receiver.initial : Receiver where
  phase := .hunt
  bytes := []
  lastAt := 0

/-- The link port after power-on, pin and full reset (R178, R185). -/
def Link.initial (rate : Nat) : Link where
  rate := rate
  rx := .initial
  buffer := []
  tx := none
  txUntil := 0
  resetOwed := none
  notices := []
  overflow := false

/-- The part as supply is applied: held in reset, every block in its power-on state (11, R192), the straps both low. -/
def State.reset : State where
  pending := []
  now := 0
  draws := 0
  power := .held true
  tracker := .initial ⟨false, false⟩ 0
  machine := Config.defaultMachine
  profiles := List.replicate 8 Config.defaultProfile
  assign := List.replicate 64 none
  store := .initial
  player := .initial
  lists := .initial
  planner := .initial
  channels := List.replicate 64 Channel.initial
  referencing := none
  run := .initial .powerOn
  permitLine := .initial
  link := .initial 1

/-! ### Updates of one block -/

/-- The tracker changed. -/
def State.updTracker (s : State) (f : Tracker → Tracker) : State := { s with tracker := f s.tracker }

/-- The pattern store changed. -/
def State.updStore (s : State) (f : Store → Store) : State := { s with store := f s.store }

/-- The player changed. -/
def State.updPlayer (s : State) (f : Player → Player) : State := { s with player := f s.player }

/-- The course lists changed. -/
def State.updLists (s : State) (f : Lists → Lists) : State := { s with lists := f s.lists }

/-- The run controller changed. -/
def State.updRun (s : State) (f : RunControl → RunControl) : State := { s with run := f s.run }

/-- The permit line changed. -/
def State.updPermitLine (s : State) (f : PermitLine → PermitLine) : State := { s with permitLine := f s.permitLine }

/-- The link port changed. -/
def State.updLink (s : State) (f : Link → Link) : State := { s with link := f s.link }

/-- The channel of bar `b`, from 1 to 64. -/
def State.channel (s : State) (b : Nat) : Channel := s.channels.getD (b - 1) Channel.initial

/-- The channel of bar `b` changed. -/
def State.updChannel (s : State) (b : Nat) (f : Channel → Channel) : State :=
  { s with channels := s.channels.modify (b - 1) f }

end Sys2Proof.Machine
end

