-- ==== Sys2Proof/Machine/Bytes.lean ====
section
/-! DEFINITION. Bytes of the lines: most significant byte first (10, section 10.7), the CRC of the part (03, R41), and the
layouts of the drive frames and the permit frame (10, R189, R190). -/

namespace Sys2Proof.Machine

/-- The low byte of a number. -/
def byteOf (n : Nat) : Byte := BitVec.ofNat 8 n

/-- A number in `k` bytes, most significant byte first; what does not fit is dropped. -/
def beBytes : Nat → Nat → List Byte
  | 0, _ => []
  | k + 1, n => byteOf (n / 256 ^ k) :: beBytes k n

/-- The number that bytes give, most significant byte first. -/
def beNat (bs : List Byte) : Nat := bs.foldl (fun n b => 256 * n + b.toNat) 0

/-- A flag in one byte. -/
def boolByte (b : Bool) : Byte := if b then 1 else 0

/-- The value of a bit that stands at place `i`. -/
def bitAt (i : Nat) (b : Bool) : Nat := if b then 2 ^ i else 0

/-- A tag in four bytes. -/
def tagBytes (t : Tag) : List Byte := beBytes 4 t.toNat

/-- A signed number in three bytes, two's complement (10, 10.7). -/
def signedBytes (x : Int) : List Byte := beBytes 3 (BitVec.ofInt 24 x).toNat

/-- The signed value of three bytes (10, R189). -/
def signedOf (bs : List Byte) : Int := (BitVec.ofNat 24 (beNat bs)).toInt

/-- A number held within the drive coordinate range (10, 10.7, "held to the 24-bit range"). -/
def heldSigned (x : Int) : Int := max Config.coordMin (min Config.coordMax x)

/-- One bit into the CRC register (R41). -/
def crcBit (r : Crc) (bit : Bool) : Crc := if r.msb != bit then (r <<< 1) ^^^ 0x1021#16 else r <<< 1

/-- One byte into the CRC register, most significant bit first (R41). -/
def crcByte (r : Crc) (b : Byte) : Crc := [7, 6, 5, 4, 3, 2, 1, 0].foldl (fun r i => crcBit r (b.getLsbD i)) r

/-- The CRC over bytes: the register starts at 0xFFFF and is not inverted (R41). -/
def crc (bs : List Byte) : Crc := bs.foldl crcByte 0xFFFF#16

/-- The two CRC bytes that follow the bytes covered (10, section 10.2). -/
def crcBytes (bs : List Byte) : List Byte := beBytes 2 (crc bs).toNat

/-- The bytes of cells, front before back (R41). -/
def cellBytes (cs : List Cell) : List Byte := cs.flatMap fun c => [byteOf c.front, byteOf c.back]

/-- The digest of a block's cells (R41). -/
def digestOf (cs : List Cell) : Crc := crc (cellBytes cs)

/-- The setpoint frame of a bar (R189). -/
def setpointFrame (bar : Nat) (enable reduced : Bool) (setpoint : Int) : List Byte :=
  let body := byteOf bar :: byteOf (bitAt 0 enable + bitAt 1 reduced) :: signedBytes setpoint
  0xC3#8 :: body ++ crcBytes body

/-- The status frame by which the drive of a bar reports a status (R189). -/
def statusBytes (bar : Nat) (d : DriveStatus) : List Byte :=
  let body := byteOf bar :: byteOf (bitAt 0 d.ready + bitAt 1 d.switch + 16 * d.fault) :: signedBytes d.actual
  0x3C#8 :: body ++ crcBytes body

/-- The flags and position of a status frame (R189). -/
def statusOf (flags : Byte) (position : List Byte) : DriveStatus where
  ready := flags.getLsbD 0
  switch := flags.getLsbD 1
  fault := flags.toNat / 16
  actual := signedOf position

/-- A status frame read: its address and status; none when it has not the start byte, the length or a good CRC (R119,
R189; log 21). -/
def parseStatus (bytes : List Byte) : Option (Nat × DriveStatus) :=
  match bytes with
  | [start, address, flags, p2, p1, p0, c1, c0] =>
    if start = 0x3C#8 && [c1, c0] = crcBytes [address, flags, p2, p1, p0]
    then some (address.toNat, statusOf flags [p2, p1, p0]) else none
  | _ => none

/-- The code of a run state (R152). -/
def runStateCode : RunState → Nat
  | .standby => 0x00
  | .hold => 0x01
  | .run => 0x02
  | .halt => 0x03

/-- The permit frame: permit, STOP and run state (R190). -/
def permitFrameBytes (permit : Nat) (stop : Bool) (state : RunState) : List Byte :=
  let body := beBytes 2 permit ++ [byteOf (bitAt 0 stop + 16 * runStateCode state)]
  0x5A#8 :: body ++ crcBytes body

/-- The first bar of a drive line less one: the line carries the 16 bars after it (02, section 2.4). -/
def lineBase : DriveLine → Nat
  | .lineA => 0
  | .lineB => 16
  | .lineC => 32
  | .lineD => 48

/-- The bar belongs to the drive line (02, section 2.4). -/
def onLine (line : DriveLine) (bar : Nat) : Bool := lineBase line < bar && bar ≤ lineBase line + 16

end Sys2Proof.Machine
end

