-- ==== Sys2Proof/WellFormed.lean ====
section
/-! DEFINITION. Which commands can be sent: every operand fits the bytes that spec/10, section 10.7, gives its field, a
kind named as unknown is not in the table of request kinds, and a drive event names one of the 64 channels. Whether a value
is GOOD is judged by the part (BAD_FIELD and the like), not here. -/

namespace Sys2Proof

/-- The value fits a field of `n` bytes. -/
def fitsBytes (n v : Nat) : Bool := v < 256 ^ n

/-- The fields of SET MACHINE: two bytes each, the index tolerance one (10, 10.7). -/
def MachineRecord.fits (r : MachineRecord) : Bool :=
  fitsBytes 1 r.tolerance &&
  [r.pitch, r.indexAngle, r.ovStart, r.ovEnd, r.ulStart, r.ulEnd, r.dmax, r.vmax, r.margin, r.stopDetect, r.followLimit,
    r.inPosition, r.settleTimeout, r.energizeTime, r.enableTimeout, r.holdDelay].all (fitsBytes 2)

/-- The value fields of SET PROFILE (10, 10.7). -/
def Profile.fits (p : Profile) : Bool :=
  fitsBytes 2 p.accel && fitsBytes 2 p.speed && fitsBytes 1 p.travel && fitsBytes 1 p.homing && fitsBytes 4 p.search &&
  fitsBytes 2 p.zeroOffset

/-- A cell of two bytes. -/
def Cell.fits (c : Cell) : Bool := fitsBytes 1 c.front && fitsBytes 1 c.back

/-- The fields of a feed position: step 1, repeat 1, course 2 (10, 10.7). -/
def FeedCursor.fits (c : FeedCursor) : Bool := fitsBytes 1 c.step && fitsBytes 1 c.rep && fitsBytes 2 c.course

/-- A list whose length is carried in one count byte. -/
def countFits {α : Type} (l : List α) : Bool := fitsBytes 1 l.length

/-- The 27 request kinds of 10, 10.7. -/
def requestKinds : List Nat :=
  [0x01, 0x02, 0x03, 0x04, 0x10, 0x11, 0x12, 0x13, 0x20, 0x21, 0x22, 0x23, 0x24, 0x25, 0x30, 0x31, 0x32, 0x33,
   0x40, 0x41, 0x42, 0x43, 0x50, 0x51, 0x52, 0x53, 0x54]

/-- A bar number that a channel has (07, R114). -/
def barExists (b : Nat) : Bool := 1 ≤ b && b ≤ 64

/-- The command can be sent. -/
def Instr.wellFormed (i : Instr) : Bool :=
  match i with
  | .ident _ => true
  | .status _ => true
  | .fetchNotice _ => true
  | .reset _ scope => fitsBytes 1 scope
  | .motionReset => true
  | .fullReset => true
  | .setMachine _ r => r.fits
  | .setProfile _ n p => fitsBytes 1 n && p.fits
  | .assignBars _ es => countFits es && es.all (fun e => fitsBytes 1 e.bar && fitsBytes 1 e.profile)
  | .readSettings _ => true
  | .defineBlock _ id n bars => fitsBytes 1 id && fitsBytes 2 n && countFits bars && bars.all (fitsBytes 1)
  | .blockData _ id first cells => fitsBytes 1 id && fitsBytes 4 first && countFits cells && cells.all Cell.fits
  | .dropBlock _ id => fitsBytes 1 id
  | .blockInfo _ id => fitsBytes 1 id
  | .readBlockStart _ id c => fitsBytes 1 id && fitsBytes 2 c
  | .readBlockNext _ => true
  | .checkComplete => true
  | .writeSequence _ steps => countFits steps && steps.all (fun t => fitsBytes 1 t.block && fitsBytes 1 t.reps)
  | .switchSequenceNow _ => true
  | .switchSequenceTimed _ mode => fitsBytes 1 mode && mode != 0
  | .setCursor _ c => c.fits
  | .locate _ c stride ts =>
      c.fits && fitsBytes 1 stride && countFits ts && ts.all (fun t => fitsBytes 1 t.bar && fitsBytes 1 t.front)
  | .locateDone => true
  | .openStream _ _ bars => countFits bars && bars.all (fitsBytes 1)
  | .courses _ n _ => fitsBytes 1 n
  | .endStream _ => true
  | .flushCourses _ => true
  | .reference _ _ ext => fitsBytes 1 ext
  | .jog _ b t => fitsBytes 1 b && fitsBytes 1 t
  | .setRunState _ t => fitsBytes 1 t
  | .getPosition _ => true
  | .planReport _ => true
  | .unknownKind _ k => fitsBytes 1 k && !requestKinds.contains k
  | .byteReceived _ _ _ => true
  | .frameGapTimeout => true
  | .replySent => true
  | .encoderCount _ _ => true
  | .encoderError _ => true
  | .indexArrival _ => true
  | .stopDetect => true
  | .exchange b => barExists b
  | .statusFrame _ bytes => bytes.length == 8
  | .driveLost b => barExists b
  | .enableTimeout b => barExists b
  | .energizeTimeEnd b => barExists b
  | .holdDelayExpiry b => barExists b
  | .jogTargetReached b => barExists b
  | .settleTimeout b => barExists b
  | .zeroMoveComplete b => barExists b
  | .allowanceTimeout => true
  | .aligned b => barExists b
  | .enterHoldFromStandby => true
  | .alignmentStart => true
  | .enterRun => true
  | .enterHold => true
  | .enterStandby => true
  | .permitFrame => true
  | .powerOn _ _ => true
  | .pinReset => true
  | .resetRelease _ => true
  | .startUpEnd => true

end Sys2Proof
end

