-- ==== Sys2Proof/Machine/Ops.lean ====
section
/-! DEFINITION. The named operations over the state that every block uses: the bars and their channels, the current tag,
the notice queue (10, R182), the permit frame falling due (09, R155). -/

namespace Sys2Proof.Machine

/-- The bar numbers 1 to 64, rising. -/
def allBars : List Nat := List.range' 1 64

/-- The set of the bars from 1 to 64 that satisfy `p`, the least significant bit for bar 1 (00, Conventions). -/
def barSet (p : Nat → Bool) : BarSet :=
  (BitVec.ofBoolListLE (allBars.map p)).setWidth 64

/-- The bar is in the set. -/
def inSet (m : BarSet) (b : Nat) : Bool := m.getLsbD (b - 1)

/-- The bars of a set, rising. -/
def barsOf (m : BarSet) : List Nat := allBars.filter (inSet m)

/-- A list changed item by item, each with its number counted on from `n`. -/
def mapFrom {α : Type} (f : Nat → α → α) : Nat → List α → List α
  | _, [] => []
  | n, x :: xs => f n x :: mapFrom f (n + 1) xs

/-- Every channel changed, each with its bar number. -/
def State.mapChannels (s : State) (f : Nat → Channel → Channel) : State :=
  { s with channels := mapFrom f 1 s.channels }

/-- The profile number of a bar; none for an ABSENT bar (02, R28). -/
def State.profileNumber (s : State) (b : Nat) : Option Nat := (s.assign.getD (b - 1) none)

/-- The bar is assigned (00, Terms). -/
def State.assigned (s : State) (b : Nat) : Bool := (s.profileNumber b).isSome

/-- The assigned bars, rising. -/
def State.assignedBars (s : State) : List Nat := allBars.filter s.assigned

/-- The profile of a bar; the defaults stand for an ABSENT bar, whose profile no rule reads. -/
def State.profile (s : State) (b : Nat) : Profile :=
  s.profiles.getD ((s.profileNumber b).getD 0) Config.defaultProfile

/-- The tag of the current course record, or 0 (01, R17). -/
def State.currentTag (s : State) : Tag := (s.lists.current.map CourseRecord.tag).getD 0

/-- The bar that a DRIVE_CHANGE notice is about. -/
def Notice.driveChangeBar (n : Notice) : Option Nat :=
  match n.report with
  | .driveChange _ _ _ _ => some n.subject
  | _ => none

/-- The bar that a JOG_DONE notice is about. -/
def Notice.jogDoneBar (n : Notice) : Option Nat :=
  match n.report with
  | .jogDone _ _ _ => some n.subject
  | _ => none

/-- A notice offered to the queue: it joins the tail, or is dropped with the overflow flag set (10, R182). -/
def Link.offer (l : Link) (n : Notice) : Link :=
  if l.notices.length < Config.noticeRoom then { l with notices := l.notices ++ [n] } else { l with overflow := true }

/-- A notice with the given course tag, at the tracker's angle, offered to the queue. -/
def State.notifyTagged (s : State) (report : Report) (detail subject : Nat) (tag : Tag) : State :=
  s.updLink fun l => l.offer ⟨report, detail, subject, tag, s.tracker.angle⟩

/-- A notice with the tag of the current record, at the tracker's angle, offered to the queue. -/
def State.notify (s : State) (report : Report) (detail subject : Nat) : State :=
  s.notifyTagged report detail subject s.currentTag

/-- A DRIVE_CHANGE record renewed by a later change of view of the same bar: the view before the first change stays
(07, R123; log 13). -/
def Notice.renewedBy (old new : Notice) : Notice :=
  match old.report, new.report with
  | .driveChange before _ _ _, .driveChange _ fault switch actual =>
    { new with report := .driveChange before fault switch actual }
  | _, _ => old

/-- A DRIVE_CHANGE offered: it updates the record of the same bar in place, or joins the queue (07, R123; 10, R182). -/
def Link.offerDriveChange (l : Link) (n : Notice) : Link :=
  if l.notices.any (fun o => o.driveChangeBar == some n.subject) then
    { l with notices := l.notices.map fun o => if o.driveChangeBar == some n.subject then o.renewedBy n else o }
  else l.offer n

/-- A permit frame falls due (09, R155). -/
def State.permitDue (s : State) : State := s.updPermitLine fun p => { p with due := true }

/-- The clock moves on by the time since the step before (log 1). -/
def State.elapse (s : State) (dt : Nat) : State := { s with now := s.now + dt }

/-- The clock moves on to the instant at which a timer ends, when it has not passed it yet (log 1). -/
def State.advanceTo (s : State) (t : Nat) : State := { s with now := max s.now t }

/-- A free value is used: the counter moves on, so that the next one is another (log 8). -/
def State.draw (s : State) : State := { s with draws := s.draws + 1 }

/-- The queue's records and the replay stack's: the records after current in knit order (05, R73). -/
def Lists.after (l : Lists) : List CourseRecord := l.replay ++ l.queue

/-- The successor (05, R73). -/
def Lists.successor (l : Lists) : Option CourseRecord := l.after.head?

/-- The record that stands last in knit order (05, R72). -/
def Lists.last (l : Lists) : Option CourseRecord :=
  match l.after.getLast? with
  | some r => some r
  | none => l.current

/-- The last item of a list changed. -/
def modifyLast {α : Type} (f : α → α) : List α → List α
  | [] => []
  | [x] => [f x]
  | x :: y :: xs => x :: modifyLast f (y :: xs)

/-- The record that stands last in knit order changed (05, R72). -/
def Lists.modifyLastRecord (l : Lists) (f : CourseRecord → CourseRecord) : Lists :=
  if l.queue ≠ [] then { l with queue := modifyLast f l.queue }
  else if l.replay ≠ [] then { l with replay := modifyLast f l.replay }
  else { l with current := l.current.map f }

/-- The lap pair of a bar in a record. -/
def CourseRecord.lap (r : CourseRecord) (b : Nat) : Option BarLap := r.laps.find? (fun x => x.bar == b)

/-- The room: free places of the course queue (05, R94). -/
def State.room (s : State) : Nat := Config.queueRoom - s.lists.queue.length

/-- The lists are in step with the shaft (07, R131). -/
def Lists.inStep (l : Lists) : Bool := l.behind == 0 && l.ahead == 0

/-- The states in which the enable is sent (07, R115). -/
def ChannelState.enabled : ChannelState → Bool
  | .energizing | .idle | .idleReduced | .jogging | .referencing | .aligning | .following => true
  | .absent | .off | .faulted => false

/-- IDLE and IDLE_REDUCED: the channel is holding (07, R128). -/
def ChannelState.holding : ChannelState → Bool
  | .idle | .idleReduced => true
  | _ => false

/-- The mask of the FAULTED channels of assigned bars (09, R170). -/
def State.faultedSet (s : State) : BarSet := barSet fun b => s.assigned b && (s.channel b).state == .faulted

/-- The mask of the referenced channels (07, R114). -/
def State.referencedSet (s : State) : BarSet := barSet fun b => (s.channel b).referenced

/-! ### Answers to requests (10, R181) -/

/-- What an owner answers to a request: the result code and the payload that follows the reply header. -/
structure Answer where
  result : Result
  payload : List Byte
  deriving DecidableEq, Repr

/-- Accepted, with a payload. -/
def accept (payload : List Byte) : Answer := ⟨.ok, payload⟩

/-- Refused, for which the rule names no payload. -/
def refuse (r : Result) : Answer := ⟨r, []⟩

/-- BAD_FIELD with the index of the first bad field (10, R181). -/
def badField (i : Nat) : Answer := ⟨.badField, [byteOf i]⟩

/-- The number of the first item that fails, counted on from `i`; an item may look at those before it. -/
def firstBad {α : Type} (bad : List α → α → Bool) : Nat → List α → List α → Option Nat
  | _, _, [] => none
  | i, before, x :: xs => if bad before x then some i else firstBad bad (i + 1) (before ++ [x]) xs

end Sys2Proof.Machine
end

