-- ==== Sys2Proof/Machine/Flags.lean ====
section
/-! DEFINITION. The outputs and flags that are functions of the state: the STOP output (09, R153), ATTENTION (10, R183), the
flag byte of a reply (10, R181) and the flag bytes of STATUS (10, R187). -/

namespace Sys2Proof.Machine

/-- The part is held in reset (11, R192). -/
def State.isHeld (s : State) : Bool :=
  match s.power with
  | .held _ => true
  | _ => false

/-- The part is running and takes frames on the control link (11, R192). -/
def State.isRunning (s : State) : Bool := s.power == .running

/-- The STOP output is active unless the run state is RUN, and while the part is held in reset (R153). -/
def State.stopActive (s : State) : Bool := s.isHeld || s.run.state != .run

/-- ATTENTION is asserted while the notice queue holds a record (R183). -/
def State.attention (s : State) : Bool := !s.link.notices.isEmpty

/-- The flag byte of a reply: ATTENTION, overflow, bad request, and the run state in bits 4 and 5 (R181). -/
def State.flagByte (s : State) : Byte :=
  byteOf (bitAt 0 s.attention + bitAt 1 s.link.overflow + bitAt 2 s.run.badRequest + 16 * runStateCode s.run.state)

/-- The run flags of STATUS (R187). -/
def State.runFlags (s : State) : Byte :=
  byteOf (bitAt 0 s.run.waiting + bitAt 1 s.run.changing + bitAt 2 s.run.badRequest + bitAt 3 s.lists.bound)

/-- The second list flag byte of STATUS: stream open, end seen, feed stopped (R187). -/
def State.listFlags (s : State) : Byte :=
  byteOf (bitAt 0 s.lists.streamOpen + bitAt 1 s.lists.endSeen + bitAt 2 s.player.feedStopped)

/-- The operation flags of STATUS: referencing, locate (R187). -/
def State.operationFlags (s : State) : Byte :=
  byteOf (bitAt 0 s.referencing.isSome + bitAt 1 s.player.search.isSome)

end Sys2Proof.Machine
end

