-- ==== Sys2Proof/Machine/Motion.lean ====
section
/-! DEFINITION. The arithmetic of motion: move times and move speeds (06, R98 to R100), the move law (07, R129), the cam
(07, R130) and the coordinates of position indexes (07, R116). Every quantity is an exact integer. -/

namespace Sys2Proof.Machine

/-- A quotient rounded up (00, Arithmetic). -/
def divUp (a b : Nat) : Nat := (a + b - 1) / b

/-- The largest `r + k` bits whose square is below `q`, found bit by bit from the top. -/
def rootBelow (q : Nat) : Nat → Nat → Nat
  | 0, r => r
  | k + 1, r => if (r + 2 ^ k) * (r + 2 ^ k) < q then rootBelow q k (r + 2 ^ k) else rootBelow q k r

/-- The integer square root rounded up: the smallest number whose square is at least `q` (00, Arithmetic). -/
def sqrtUp (q : Nat) : Nat := if q = 0 then 0 else rootBelow q (q.log2 / 2 + 1) 0 + 1

/-- The acceleration time of a move of `s` um (R98). -/
def accelTime (p : Profile) (s : Nat) : Nat := 2 * sqrtUp (divUp (1000000 * s) p.accel)

/-- The speed time of a move of `s` um (R99). -/
def speedTime (p : Profile) (s : Nat) : Nat := divUp (2000 * s) p.speed

/-- The move time; 0 for a move of no distance (R99; R134, R143, R149). -/
def moveTime (p : Profile) (s : Nat) : Nat := if s = 0 then 0 else max (accelTime p s) (speedTime p s)

/-- The distance of two position indexes, in needle spaces (R97). -/
def gauge (i j : Nat) : Nat := ((i : Int) - j).natAbs

/-- The width of the overlap window (R21). -/
def overlapWidth (m : MachineRecord) : Nat := m.ovEnd - m.ovStart

/-- The width of the underlap window (R21). -/
def underlapWidth (m : MachineRecord) : Nat := m.ulEnd - m.ulStart

/-- The window of a move (R97). -/
def windowOf (m : MachineRecord) : BarMove → Nat
  | .overlap => overlapWidth m
  | .underlap => underlapWidth m

/-- The speed of a move of `d` needle spaces over a window of `w` counts (R100). -/
def moveSpeed (m : MachineRecord) (p : Profile) (w d : Nat) : Nat :=
  if d = 0 then m.vmax else min (w * 15000 / moveTime p (d * m.pitch)) m.vmax

/-- The distance covered by a move of `s` at the point `u` of a span `w` (R129). -/
def lawDistance (s u w : Nat) : Nat :=
  if 2 * u ≤ w then 2 * s * u ^ 2 / w ^ 2 else s - 2 * s * (w - u) ^ 2 / w ^ 2

/-- The coordinate that a move from `start` to `target` gives at the point `u` of its span `w` (R129). -/
def lawPlace (start target : Int) (u w : Nat) : Int :=
  if start ≤ target then start + lawDistance (target - start).natAbs u w
  else start - lawDistance (target - start).natAbs u w

/-- The zones of the knitting cycle (01, section 1.2; 07, R130). -/
inductive Zone where
  | beforeOverlap | overlap | dwell | underlap | afterUnderlap
  deriving DecidableEq, Repr

/-- The zone of an angle (R130). -/
def zoneOf (m : MachineRecord) (e : Nat) : Zone :=
  if e < m.ovStart then .beforeOverlap
  else if e < m.ovEnd then .overlap
  else if e < m.ulStart then .dwell
  else if e < m.ulEnd then .underlap
  else .afterUnderlap

/-- The cam: the setpoint at an angle, from the coordinates of front, back and next front position (R130). -/
def cam (m : MachineRecord) (e : Nat) (a b next : Int) : Int :=
  match zoneOf m e with
  | .beforeOverlap => a
  | .overlap => lawPlace a b (e - m.ovStart) (overlapWidth m)
  | .dwell => b
  | .underlap => lawPlace b next (e - m.ulStart) (underlapWidth m)
  | .afterUnderlap => next

/-- The position index at which the cam stands in a standing zone; none inside a window (R132). -/
def standingIndex (m : MachineRecord) (e : Nat) (a b next : Nat) : Option Nat :=
  match zoneOf m e with
  | .beforeOverlap => some a
  | .overlap => none
  | .dwell => some b
  | .underlap => none
  | .afterUnderlap => some next

/-- The drive coordinate of a position index, from the reference point (R116). -/
def coordOf (m : MachineRecord) (p : Profile) (ref : Int) (k : Nat) : Int := ref + p.zeroOffset + k * m.pitch

/-- The cam setpoint of a bar at the present angle from the current record, with the given next front position; none where
the bar has no reference point or no lap pair (it then holds, R78). -/
def State.camSetpoint (s : State) (b : Nat) (c : Channel) (next : BarLap → Nat) : Option (Int × Option Nat) :=
  match c.refPoint, s.lists.current.bind (·.lap b) with
  | some ref, some lap =>
    let at_ := coordOf s.machine (s.profile b) ref
    some (cam s.machine s.tracker.angle (at_ lap.front) (at_ lap.back) (at_ (next lap)),
      standingIndex s.machine s.tracker.angle lap.front lap.back (next lap))
  | _, _ => none

/-- The front position that the underlap leads to: the bound successor's, or the back position when none is bound (R130). -/
def State.boundNext (s : State) (b : Nat) (lap : BarLap) : Nat :=
  if s.lists.bound then ((s.lists.successor.bind (·.lap b)).map BarLap.front).getD lap.back else lap.back

/-- A FOLLOWING channel takes its cam setpoint while the lists are in step, and holds otherwise (R130 to R132). -/
def State.followed (s : State) (b : Nat) (c : Channel) : Channel :=
  if c.state = .following && s.lists.inStep then
    match s.camSetpoint b c (s.boundNext b) with
    | some (x, index) => { c with setpoint := x, lastTarget := index.getD c.lastTarget }
    | none => c
  else c

/-- Every FOLLOWING channel computes its setpoint from the present angle, record and binding (R130). -/
def State.follow (s : State) : State := s.mapChannels s.followed

/-- The next front position of the alignment target: the successor's when the angle is at or above ul_start (R134). -/
def State.alignNext (s : State) (b : Nat) (lap : BarLap) : Nat :=
  if s.machine.ulStart ≤ s.tracker.angle then ((s.lists.successor.bind (·.lap b)).map BarLap.front).getD lap.back
  else lap.back

/-- The alignment target of a bar: its cam setpoint before the binding is made (R134). -/
def State.alignTarget (s : State) (b : Nat) : Int :=
  let c := s.channel b
  ((s.camSetpoint b c (s.alignNext b)).map Prod.fst).getD c.setpoint

/-- A timed move from the setpoint a channel holds to a target, for its bar's profile (R134, R143, R149). -/
def timedMove (p : Profile) (start target : Int) : TimedMove :=
  ⟨start, target, moveTime p (target - start).natAbs, 0⟩

/-- The setpoint of a timed move at the exchange that follows `sent` others: the target once the elapsed time has reached
the move time, and the move law's value before (R134, R143, R149; log 12). -/
def TimedMove.place (m : TimedMove) : Int :=
  if m.time ≤ m.sent * Config.exchangeTime then m.target
  else lawPlace m.start m.target (m.sent * Config.exchangeTime) m.time

/-- The exchange that comes sends the target (R134, R143, R149). -/
def TimedMove.arrives (m : TimedMove) : Bool := m.time ≤ m.sent * Config.exchangeTime

end Sys2Proof.Machine
end

