-- ==== Sys2Proof/Machine/Plan.lean ====
section
/-! DEFINITION. The lapping planner (06): course ceilings, the infeasible mark, the look-ahead permit and its limiting term;
and the publishing of the permit by the run controller (09, R154), which every recomputation hands on. -/

namespace Sys2Proof.Machine

/-- The move of a bar from a record to its successor, in needle spaces (R97). -/
def moveGauge (lap next : BarLap) : BarMove → Nat
  | .overlap => gauge lap.front lap.back
  | .underlap => gauge lap.back next.front

/-- The two candidates of a bar for a ceiling, overlap before underlap (R101). -/
def State.barCandidates (s : State) (r next : CourseRecord) (b : Nat) : List Ceiling :=
  match r.lap b, next.lap b with
  | some lap, some lap' =>
    [BarMove.overlap, .underlap].map fun mv =>
      ⟨moveSpeed s.machine (s.profile b) (windowOf s.machine mv) (moveGauge lap lap' mv), .bar b mv⟩
  | _, _ => []

/-- The candidates for a ceiling in the order in which the first that equals it names the limit source: VMAX, CAP, the bars
rising (R101). -/
def State.ceilingCandidates (s : State) (r next : CourseRecord) : List Ceiling :=
  (r.cap.map fun c => (⟨min c s.machine.vmax, .cap⟩ : Ceiling)).toList ++
    s.assignedBars.flatMap (s.barCandidates r next)

/-- The lower of two candidates, the first when they are equal. -/
def Ceiling.lower (x y : Ceiling) : Ceiling := if y.value < x.value then y else x

/-- The ceiling of a record with its successor (R101). -/
def State.ceilingOf (s : State) (r next : CourseRecord) : Ceiling :=
  (s.ceilingCandidates r next).foldl Ceiling.lower ⟨s.machine.vmax, .vmax⟩

/-- The code of a limit source in notices and replies (R96). -/
def limitCode : LimitSource → Nat
  | .vmax => 0x00
  | .cap => 0x01
  | .bar _ .overlap => 0x02
  | .bar _ .underlap => 0x03

/-- The INFEASIBLE_COURSE notice of a ceiling of 0 whose record's mark is clear (R104). -/
def State.reportInfeasible (s : State) (r next : CourseRecord) (c : Ceiling) : State :=
  if c.value = 0 && !r.infeasible then
    match c.source with
    | .bar b mv =>
      match r.lap b, next.lap b with
      | some lap, some lap' =>
        let d := moveGauge lap lap' mv
        s.notifyTagged (.infeasibleCourse d (windowOf s.machine mv) (moveTime (s.profile b) (d * s.machine.pitch)))
          (limitCode c.source) b r.tag
      | _, _ => s
    | _ => s
  else s

/-- A record given its ceiling, and its infeasible mark when the ceiling is 0 (R102, R104). -/
def CourseRecord.withCeiling (r : CourseRecord) (c : Ceiling) : CourseRecord :=
  { r with ceiling := some c, infeasible := r.infeasible || c.value == 0 }

/-- The planner computes the ceiling of the record that stood last, now that `next` follows it (R102). -/
def State.giveCeiling (s : State) (r next : CourseRecord) : State :=
  let c := s.ceilingOf r next
  (s.updLists fun l => l.modifyLastRecord fun r => r.withCeiling c).reportInfeasible r next c

/-- A term of the permit with its name (R105, R106). -/
structure PermitTerm where
  value : Nat
  term : LimitTerm
  deriving DecidableEq, Repr

/-- The ceiling terms of the records from place `j` on; the last record has none (R105). -/
def ceilingTerms (dmax : Nat) : Nat → List CourseRecord → List PermitTerm
  | j, r :: r' :: rs =>
    match r.ceiling with
    | some c => ⟨c.value + j * dmax, .ceiling j r.tag c.source⟩ :: ceilingTerms dmax (j + 1) (r' :: rs)
    | none => ceilingTerms dmax (j + 1) (r' :: rs)
  | _, _ => []

/-- The lower of two terms, the first when they are equal (R106). -/
def PermitTerm.lower (x y : PermitTerm) : PermitTerm := if y.value < x.value then y else x

/-- The first lowest term of a list that the tail term closes (R105, R106). -/
def lowestTerm (terms : List PermitTerm) (tail : PermitTerm) : PermitTerm :=
  match terms with
  | [] => tail
  | t :: ts => (ts ++ [tail]).foldl PermitTerm.lower t

/-- The permit and its limiting term that the lists give with a machine record (R105, R106). -/
def planOf (m : MachineRecord) (l : Lists) : Planner :=
  match l.current with
  | none => ⟨0, .none⟩
  | some r =>
    let n := l.after.length
    let t := lowestTerm (ceilingTerms m.dmax 0 (r :: l.after)) ⟨n * m.dmax, .tail n⟩
    ⟨min t.value m.vmax, t.term⟩

/-- The permit that stands to be published: the computed one in RUN with no leave request waiting, and 0 otherwise
(09, R154). -/
def State.permitToPublish (s : State) : Nat :=
  if s.run.state = .run && !s.run.waiting then s.planner.permit else 0

/-- The published permit is set again; a change lets a permit frame fall due, and a rise raises the course peak
(09, R154, R155, R169). -/
def State.publish (s : State) : State :=
  if s.permitToPublish = s.run.published then s
  else
    (s.updRun fun r =>
      { r with published := s.permitToPublish, peak := max r.peak s.permitToPublish }).permitDue

/-- The planner recomputes the permit and its term, and the run controller publishes (R107). -/
def State.replan (s : State) : State := { s with planner := planOf s.machine s.lists }.publish

end Sys2Proof.Machine
end

