-- ==== Sys2Proof/Machine/Reports.lean ====
section
/-! DEFINITION. How a channel changes state (07), how jogs and referencings end (08, R144 to R151), and what the run
controller does with a cause reported to it: a halt, a FURTHER_FAULT, a failed request (09, R160, R161, R166 to R168, R171);
with them the fault of a channel (07, R124) and the loss of lock (01, R14). -/

namespace Sys2Proof.Machine

/-! ### Codes -/

/-- The code of a cause (09, R166, R171). -/
def causeCode : Cause → Nat
  | .underrun => 0x01
  | .overspeed => 0x02
  | .syncLost => 0x03
  | .encoderError => 0x04
  | .reverseLimit => 0x05
  | .barFollow => 0x06
  | .driveFault => 0x07
  | .driveLost => 0x08
  | .shaftMoved => 0x09

/-- The detail of a drive that is not ready (07, R121). -/
def notReadyDetail : Nat := 0x10

/-- How a jog ends (08, R151). -/
inductive JogOutcome where
  | ok | notInPosition | fault | shaftMoved | aborted
  deriving DecidableEq, Repr

/-- The code of a jog's outcome (08, R151). -/
def jogCode : JogOutcome → Nat
  | .ok => 0x00
  | .notInPosition => 0x01
  | .fault => 0x02
  | .shaftMoved => 0x03
  | .aborted => 0x04

/-- How a channel's referencing finishes (08, R144). -/
inductive RefOutcome where
  | found | notFound | timeout | shaftMoved | barFault | aborted
  deriving DecidableEq, Repr

/-- The flag of an outcome in the status set (08, R144). -/
def refFlag : RefOutcome → Nat
  | .found => 0x00
  | .notFound => 0x01
  | .timeout => 0x02
  | .shaftMoved => 0x04
  | .barFault => 0x08
  | .aborted => 0x10

/-! ### Channel states -/

/-- Every timer stopped, and every move, pending or under way, dropped. -/
def settled (c : Channel) : Channel :=
  { c with
    phase := none, enableTimer := none, energizeTimer := none, holdTimer := none, settleTimer := none,
    pendingMove := none, jog := none, move := none, limitSent := 0, aligned := false }

/-- The referenced flag cleared, the reference point discarded, the last target index 0 (07, R117). -/
def unreferenced (c : Channel) : Channel := { c with referenced := false, refPoint := none, lastTarget := 0 }

/-- The hold timer as it stands when a channel enters IDLE: running unless the hold delay is 0 (07, R128). -/
def holdStart (m : MachineRecord) : Option Nat := if m.holdDelay = 0 then none else some 0

/-- The channel goes to IDLE, holding its setpoint (07, R115, R128). -/
def toIdle (m : MachineRecord) (c : Channel) : Channel := { settled c with state := .idle, holdTimer := holdStart m }

/-- The channel goes to OFF (07, R117, R125). -/
def toOff (c : Channel) : Channel := { unreferenced (settled c) with state := .off }

/-- The channel goes to FAULTED (07, R124). -/
def toFaulted (c : Channel) : Channel := { unreferenced (settled c) with state := .faulted }

/-- The channel is enabled: ENERGIZING with no pending move and its enable timer started (07, R126). -/
def enabledChannel (c : Channel) : Channel :=
  { settled c with state := .energizing, readySeen := false, enableTimer := some 0 }

/-- FOLLOWING channels go to IDLE, holding their setpoints (07, R125, R136). -/
def State.endFollowing (s : State) : State :=
  s.mapChannels fun _ c => if c.state = .following then toIdle s.machine c else c

/-! ### The ends of jogs and referencings (08) -/

/-- The JOG_DONE notice of a bar whose jog ends (R151). Without a status (no run reaches that) the difference is a free
value (log 10). -/
def State.notifyJogDone (s : State) (b : Nat) (o : JogOutcome) : State :=
  match (s.channel b).jog with
  | none => s
  | some j =>
    match (s.channel b).last with
    | some d => s.notify (.jogDone j.target (heldSigned (d.actual - j.coord)) j.time) (jogCode o) b
    | none => s.draw.notify (.jogDone j.target (heldSigned (Config.openValue s.draws)) j.time) (jogCode o) b

/-- A jog ends with an outcome, and its channel moves on (R150, R151). -/
def State.endJog (s : State) (b : Nat) (o : JogOutcome) (f : Channel → Channel) : State :=
  if (s.channel b).jog.isSome then (s.notifyJogDone b o).updChannel b f else s

/-- Every jog ends, in rising bar number (R151). -/
def State.endJogs (s : State) (o : JogOutcome) (f : Channel → Channel) : State :=
  allBars.foldl (fun s b => s.endJog b o f) s

/-- A jog is under way or pending. -/
def State.anyJog (s : State) : Bool := s.channels.any fun c => c.jog.isSome

/-- The REFERENCE_DONE notice, with which the referencing record ends (R147). -/
def State.endReferencing (s : State) (r : Referencing) : State :=
  { s with referencing := none }.notify (.referenceDone r.found) r.outcomes (barsOf r.selected).length

/-- The bit of a bar in a bar set. -/
def barBit (b : Nat) : BarSet := 1#64 <<< (b - 1)

/-- The referencing of one bar finishes: the outcome is entered, and with the last bar the record ends (R144, R147). -/
def State.finishBar (s : State) (b : Nat) (o : RefOutcome) : State :=
  match s.referencing with
  | none => s
  | some r =>
    if inSet r.remaining b then
      let r' := { r with
        remaining := r.remaining &&& ~~~(barBit b)
        found := if o = .found then r.found ||| barBit b else r.found
        outcomes := r.outcomes ||| refFlag o }
      if r'.remaining = 0 then s.endReferencing r' else { s with referencing := some r' }
    else s

/-- Every remaining bar finishes with the same outcome, and the record ends (R145, R146). -/
def State.finishRemaining (s : State) (o : RefOutcome) (f : Channel → Channel) : State :=
  match s.referencing with
  | none => s
  | some r =>
    (s.mapChannels fun b c => if inSet r.remaining b then f c else c).endReferencing
      { r with remaining := 0, outcomes := r.outcomes ||| refFlag o }

/-- One event ends every jog and the referencing. Which notices come first is open when both are under way (log 9). -/
def State.endMotions (s : State) (jo : JogOutcome) (ro : RefOutcome) (fj fr : Channel → Channel) : State :=
  if s.anyJog && s.referencing.isSome then
    if Config.jogsEndFirst s.draws then (s.draw.endJogs jo fj).finishRemaining ro fr
    else (s.draw.finishRemaining ro fr).endJogs jo fj
  else (s.endJogs jo fj).finishRemaining ro fr

/-! ### Failed requests (09, R160, R161, R171) -/

/-- The machine is being aligned toward RUN (R161). -/
def State.aligningToRun (s : State) : Bool := s.run.changing && s.run.requested == some .run

/-- A request toward RUN waits in HOLD (R160). -/
def State.waitingForRun (s : State) : Bool :=
  s.run.waiting && s.run.requested == some .run && s.run.state == .hold

/-- The request in progress ends without its target: STATE_FAILED (R171). -/
def State.failRequest (s : State) (cause : Cause) (detail bar : Nat) : State :=
  (s.updRun fun r => { r with waiting := false, changing := false, requested := none }).notify
    (.stateFailed (s.run.requested.getD .run) s.run.changing s.run.state detail) (causeCode cause) bar

/-- A channel that is aligning, or energizing for its alignment, goes to IDLE (R161). -/
def endAlignment (m : MachineRecord) (c : Channel) : Channel :=
  if c.state = .aligning || (c.state = .energizing && c.pendingMove == some .alignment) then toIdle m c else c

/-- The alignment fails (R161). -/
def State.failAlignment (s : State) (cause : Cause) (detail bar : Nat) : State :=
  (s.mapChannels fun _ c => endAlignment s.machine c).failRequest cause detail bar

/-! ### Halts (09, R166 to R168) -/

/-- FOLLOWING channels coast on a halt, unless the shaft is STOPPED or the tracker out of LOCKED already (07, R136). -/
def State.coast (s : State) : State :=
  if s.tracker.stopped || s.tracker.sync != .locked then s.endFollowing else s

/-- The halt: record, HALT, permit 0, STOP, one permit frame, HALTED, and the bars coast (R167). -/
def State.haltOn (s : State) (cause : Cause) (detail bar : Nat) (speed : Option Nat) (peak : Nat) : State :=
  let s1 := (s.updRun fun r =>
    { r with state := .halt, halt := some ⟨cause, detail, bar, s.currentTag, s.tracker.angle, s.tracker.speed⟩ }).replan
  (s1.permitDue.notify (.halted detail speed peak s.run.requested) (causeCode cause) bar).coast

/-- The cause is a channel fault (07, R124). -/
def Cause.ofChannel : Cause → Bool
  | .barFollow | .driveFault | .driveLost => true
  | _ => false

/-- The cause is one of the tracker's, which an alignment heeds (09, R166). -/
def Cause.ofTracker : Cause → Bool
  | .syncLost | .encoderError => true
  | _ => false

/-- A cause reported to the run controller, with the speed and peak its notice carries (R166). -/
def State.reportWith (s : State) (cause : Cause) (detail bar : Nat) (speed : Option Nat) (peak : Nat) : State :=
  match s.run.state with
  | .run => s.haltOn cause detail bar speed peak
  | .halt => s.notify (.furtherFault detail speed peak s.run.requested) (causeCode cause) bar
  | .hold | .standby =>
    if s.aligningToRun && (cause.ofChannel || cause.ofTracker) then s.failAlignment cause detail bar
    else if s.waitingForRun && cause.ofChannel then s.failRequest cause detail bar
    else s

/-- A cause reported with the last measured speed and no peak (R167). -/
def State.report (s : State) (cause : Cause) (detail bar : Nat) : State :=
  s.reportWith cause detail bar s.tracker.speed 0

/-! ### Channel faults (07, R124) -/

/-- The channel faults itself queue BAR_FAULT, in STANDBY and HOLD (R124). -/
def State.notifyBarFault (s : State) (b : Nat) (cause : Cause) (before : ChannelState) (detail error : Nat)
    (compared : Int) : State :=
  s.notify (.barFault before detail (min error 16777215) compared) (causeCode cause) b

/-- A channel faults: FAULTED, its jog or referencing ended, the report, and in STANDBY and HOLD the BAR_FAULT (R124). -/
def State.faultChannel (s : State) (b : Nat) (cause : Cause) (detail error : Nat) (compared : Int) : State :=
  let before := (s.channel b).state
  let s1 := ((s.notifyJogDone b .fault).updChannel b toFaulted).finishBar b .barFault
  let s2 := s1.report cause detail b
  if s.run.state = .standby || s.run.state = .hold then s2.notifyBarFault b cause before detail error compared else s2

/-- A fault that no comparison raised: the setpoint compared is open (log 10). -/
def State.faultUncompared (s : State) (b : Nat) (cause : Cause) (detail : Nat) : State :=
  s.draw.faultChannel b cause detail 0 (Config.openValue s.draws)

/-! ### The shaft's movement and its sync (01) -/

/-- The flag changes to MOVING: jogs and referencings end with SHAFT_MOVED, an alignment fails (08, R146, R151; 09, R161). -/
def State.shaftMoved (s : State) : State :=
  let s1 := s.endMotions .shaftMoved .shaftMoved (toIdle s.machine) (fun c => toIdle s.machine (unreferenced c))
  if s1.aligningToRun then s1.failAlignment .shaftMoved 0 0 else s1

/-- The tracker leaves LOCKED: the course timing is discarded, the side dropped, and the channels stop following (R14,
07 R136). -/
def State.leaveLocked (s : State) : State :=
  (s.updTracker fun t => { t with courseStart := none, speed := none, side := none }).endFollowing

/-- The code of a sync state (R17). -/
def syncCode : SyncState → Nat
  | .noSignal => 0x00
  | .seekingIndex => 0x01
  | .checking => 0x02
  | .locked => 0x03

/-- A change of sync state, to a new state with a new angle and travel counter, and its one SYNC_CHANGE; `before` is the
angle held just before the change (R17). -/
def State.changeSync (s : State) (next : SyncState) (angle : Nat) (travel : Int) (cause : SyncCause) (before : Nat) :
    State :=
  (s.updTracker fun t => { t with sync := next, angle := angle, travel := travel }).notify
    (.syncChange s.tracker.sync cause before) (syncCode next) 0

end Sys2Proof.Machine
end

