-- ==== Sys2Proof/Machine/Lists.lean ====
section
/-! DEFINITION. The course lists (05): appending a record with its rests resolved, the crossings, the underlap events, the
reports at the end of the lists, and clearing them. -/

namespace Sys2Proof.Machine

/-- A bar's part of a record before its rests are resolved: a lap pair, or none for a rest (R72). -/
structure RawLap where
  bar : Nat
  pair : Option (Nat × Nat)
  deriving DecidableEq, Repr

/-- The index at which a resting bar stands: its back position in the record that stands last, or the channel's last target
index when the lists are empty (R72). -/
def State.restIndex (s : State) (b : Nat) : Nat :=
  match s.lists.last with
  | some r => ((r.lap b).map BarLap.back).getD (s.channel b).lastTarget
  | none => (s.channel b).lastTarget

/-- A rest resolved into a lap pair (R72). -/
def State.resolve (s : State) (x : RawLap) : BarLap :=
  match x.pair with
  | some (a, b) => ⟨x.bar, a, b⟩
  | none => ⟨x.bar, s.restIndex x.bar, s.restIndex x.bar⟩

/-- The report marks cleared, as when a record becomes current (R83). -/
def Lists.clearMarks (l : Lists) : Lists := { l with underrunMark := false, starvedMark := false, endMark := false }

/-- A record is appended: it becomes current, or joins the queue behind the record that now has a successor, whose ceiling
the planner computes; then the permit is recomputed (R72, R74, R102). -/
def State.append (s : State) (tag : Tag) (origin : Origin) (cap : Option Nat) (laps : List RawLap) : State :=
  let r : CourseRecord := ⟨tag, origin, cap, false, laps.map s.resolve, none, false⟩
  match s.lists.last with
  | none => (s.updLists fun l => { l.clearMarks with current := some r }).replan
  | some c => ((s.giveCeiling c r).updLists fun l => { l with queue := l.queue ++ [r] }).replan

/-- The crossings and underlap events move the lists in RUN and HALT alone (R76, R77, R79, R80). -/
def State.listsFollow (s : State) : Bool := s.run.state == .run || s.run.state == .halt

/-- UNDERRUN, reported once for the current record (R83). -/
def State.reportUnderrun (s : State) : State :=
  if s.lists.underrunMark then s
  else (s.updLists fun l => { l with underrunMark := true }).report .underrun 0 0

/-- RUN_END, queued once for the current record (R82, R83). -/
def State.reportRunEnd (s : State) (detail : Nat) : State :=
  if s.lists.endMark then s
  else (s.updLists fun l => { l with endMark := true }).notify (.runEnd s.lists.source s.lists.history.length) detail 0

/-- STARVED, queued once for the current record (R82, R83). -/
def State.reportStarved (s : State) : State :=
  if s.lists.starvedMark then s
  else (s.updLists fun l => { l with starvedMark := true }).notify
    (.starved s.lists.source s.lists.history.length s.player.feedStopped) 0 0

/-- The current record carries the end mark. -/
def Lists.atEnd (l : Lists) : Bool := (l.current.map CourseRecord.endMark).getD false

/-- The history after a record joins it, no longer than its 16 places (R76). -/
def joinHistory (history : List CourseRecord) (r : CourseRecord) : List CourseRecord :=
  (history ++ [r]).drop ((history ++ [r]).length - Config.historyRoom)

/-- The bound successor becomes current (R76). -/
def Lists.stepForward (l : Lists) (c next : CourseRecord) : Lists :=
  { l.clearMarks with
    current := some next
    history := if l.replay = [] then joinHistory l.history c else l.history ++ [c]
    replay := l.replay.tail
    queue := if l.replay = [] then l.queue.tail else l.queue
    bound := false }

/-- A forward crossing at the lists, in RUN or HALT (R76). -/
def State.crossForward (s : State) : State :=
  let l := s.lists
  if 0 < l.ahead then (s.updLists fun l => { l with ahead := min 65535 (l.ahead + 1) }).replan
  else if 0 < l.behind then (s.updLists fun l => { l with behind := l.behind - 1 }).replan
  else
    match l.current, l.successor, l.bound with
    | some c, some next, true => (s.updLists fun l => l.stepForward c next).replan
    | _, _, _ =>
      let s1 := (s.updLists fun l => { l with ahead := 1 }).replan
      if l.atEnd then s1.reportRunEnd 0x01 else s1.reportUnderrun

/-- Current is pushed onto the replay stack and bound; the newest history record becomes current (R77). -/
def Lists.stepBackward (l : Lists) (c newest : CourseRecord) : Lists :=
  { l.clearMarks with
    current := some newest, history := l.history.dropLast, replay := c :: l.replay, bound := true }

/-- A backward crossing at the lists, in RUN or HALT (R77). -/
def State.crossBackward (s : State) : State :=
  let l := s.lists
  if 0 < l.ahead then (s.updLists fun l => { l with ahead := l.ahead - 1 }).replan
  else
    match l.current, l.history.getLast? with
    | some c, some newest => (s.updLists fun l => l.stepBackward c newest).replan
    | _, _ =>
      let s1 := (s.updLists fun l => { l with behind := min 65535 (l.behind + 1) }).replan
      if l.behind = 0 then s1.report .reverseLimit 0 0 else s1

/-- An underlap arrival at the lists, in RUN or HALT (R80). -/
def State.arriveUnderlap (s : State) : State :=
  if !s.lists.inStep then s
  else if s.lists.successor.isSome then s.updLists fun l => { l with bound := true }
  else if s.lists.atEnd then s
  else s.reportUnderrun

/-- An underlap departure backward at the lists, in RUN or HALT (R81). -/
def State.departUnderlap (s : State) : State := s.updLists fun l => { l with bound := false }

/-- The stopped check (R82). -/
def State.stoppedCheck (s : State) : State :=
  if s.run.state = .run && s.tracker.stopped && s.tracker.sync = .locked && s.tracker.angle < s.machine.ulStart &&
      s.lists.inStep && s.lists.current.isSome && s.lists.successor.isNone then
    if s.lists.atEnd then s.reportRunEnd 0x00 else s.reportStarved
  else s

/-- The lists cleared (R84); the end-seen flag goes with them (R85). -/
def Lists.cleared (l : Lists) : Lists :=
  { l.clearMarks with
    current := none, history := [], replay := [], queue := [], bound := false, behind := 0, ahead := 0, endSeen := false }

/-- The stream closed, its bar list and expected tag discarded (R85). -/
def Lists.closeStream (l : Lists) : Lists := { l with streamOpen := false, streamBars := [], expected := none }

/-- The lists cleared, and the permit recomputed on the clearing (R84, R107). -/
def State.clearLists (s : State) : State := (s.updLists Lists.cleared).replan

/-- The binding and the counts end, as the run controller enters HOLD (R78, R81). -/
def Lists.released (l : Lists) : Lists := { l with bound := false, behind := 0, ahead := 0 }

/-- What stays of the records after current in a flush: a bound successor alone (R92). -/
def Lists.flushed (l : Lists) : Lists :=
  if l.bound then
    match l.replay with
    | r :: _ => { l with replay := [r], queue := [] }
    | [] => { l with queue := l.queue.take 1 }
  else { l with replay := [], queue := [] }

/-- The records that a flush removes (R92). -/
def Lists.flushes (l : Lists) : List CourseRecord := l.after.drop (l.flushed.after.length)

/-- The stream after a flush that removed records: the expected tag follows the record left last, and a stream that END
STREAM closed opens again when its end-marked record went (R93). -/
def Lists.resumeStream (l : Lists) (removed : List CourseRecord) : Lists :=
  if l.source = .stream && removed ≠ [] then
    let l1 := { l with expected := l.last.map fun r => r.tag + 1 }
    if removed.any CourseRecord.endMark then
      { l1 with endSeen := false, streamOpen := l1.streamOpen || l1.endSeen }
    else l1
  else l

/-- The lists flushed: the records removed, the ceiling of the record left last removed with its successor, and the stream
set to go on from there (R92, R93, R103). -/
def Lists.flush (l : Lists) : Lists :=
  let removed := l.flushes
  if removed = [] then l
  else (l.flushed.modifyLastRecord fun r => { r with ceiling := none }).resumeStream removed

end Sys2Proof.Machine
end

