-- ==== Sys2Proof/Machine/Player.lean ====
section
/-! DEFINITION. The sequence player (04): the tables and their pins, switching, the feed cursor and the feed, the stopped
feed, SET CURSOR and LOCATE; with them the reading of stored blocks (03, R43, R44). -/

namespace Sys2Proof.Machine

/-! ### Blocks as the player reads them (03) -/

/-- The entry of a block id (03, R33). -/
def State.block (s : State) (id : Nat) : Block := s.store.blocks.getD id Block.vacant

/-- The entry of a block id changed. -/
def State.updBlock (s : State) (id : Nat) (f : Block → Block) : State :=
  s.updStore fun st => { st with blocks := st.blocks.modify id f }

/-- The cell count of an entry (03, R33). -/
def cellCount (b : Block) : Nat := b.courses * b.bars.length

/-- A cell is the rest marker (03, R34). -/
def isRest (c : Cell) : Bool := c.front == 255 && c.back == 255

/-- A cell is valid: a lap pair or the rest marker (03, R34). -/
def validCell (c : Cell) : Bool := (c.front ≤ 63 && c.back ≤ 63) || isRest c

/-- The cell of a bar in a course of a block; none for a bar that is not in the block (03, R34, R44). -/
def cellOf (b : Block) (course bar : Nat) : Option Cell :=
  (b.bars.idxOf? bar).bind fun i => b.cells[course * b.bars.length + i]?

/-- The table names the block in at least one step (03, R43). -/
def namesBlock (table : List SeqStep) (id : Nat) : Bool := table.any fun t => t.block == id

/-- Every block that the table names changed, each once. -/
def State.updNamed (s : State) (table : List SeqStep) (f : Block → Block) : State :=
  s.updStore fun st => { st with blocks := mapFrom (fun id b => if namesBlock table id then f b else b) 0 st.blocks }

/-- Each distinct block of a table gains a pin (03, R43). -/
def State.pin (s : State) (table : List SeqStep) : State := s.updNamed table fun b => { b with pins := b.pins + 1 }

/-- Each distinct block of a table loses a pin (03, R43). -/
def State.unpin (s : State) (table : List SeqStep) : State := s.updNamed table fun b => { b with pins := b.pins - 1 }

/-- Each distinct block of a table that may be absent loses a pin. -/
def State.unpinOld (s : State) : Option (List SeqStep) → State
  | some table => s.unpin table
  | none => s

/-! ### Tables and switching (04, R51 to R57) -/

/-- The number of courses in one pass of a table (R51). -/
def State.passLength (s : State) (table : List SeqStep) : Nat :=
  (table.map fun t => t.reps * (s.block t.block).courses).sum

/-- The code of a switch mode (04, section 4.3). -/
def modeCode : SwitchMode → Nat
  | .now => 0x00
  | .atStepEnd => 0x01
  | .atPassEnd => 0x02

/-- A switch takes effect: PENDING becomes ACTIVE, the cursor goes to its first course, and SEQUENCE_SWITCHED is queued
(R56, R57). -/
def State.takeSwitch (s : State) (mode : SwitchMode) : State :=
  match s.player.pending with
  | none => s
  | some table =>
    let old := if s.player.active.isSome then s.player.pass.toNat else 0
    let s1 := (s.unpinOld s.player.active).updPlayer fun p =>
      { p with active := some table, pending := none, recorded := none, cursor := ⟨0, 0, 0⟩, pass := 0 }
    s1.notifyTagged (.sequenceSwitched (BitVec.ofNat 32 old) table.length) (modeCode mode)
      ((table.head?.map SeqStep.block).getD 0) s.player.fed

/-! ### The feed (04, R58 to R62) -/

/-- Where the cursor stands after a course has been fed, and the boundaries that the advance reached (R58, R59). -/
structure Advance where
  place : FeedCursor
  stepEnd : Bool
  passEnd : Bool
  deriving DecidableEq, Repr

/-- The advance of the cursor in a table, whose present step plays a block of `courses` courses (R58). -/
def advance (table : List SeqStep) (step : SeqStep) (courses : Nat) (c : FeedCursor) : Advance :=
  if c.course + 1 < courses then ⟨{ c with course := c.course + 1 }, false, false⟩
  else if c.rep + 1 < step.reps then ⟨⟨c.step, c.rep + 1, 0⟩, false, false⟩
  else if c.step + 1 < table.length then ⟨⟨c.step + 1, 0, 0⟩, true, false⟩
  else ⟨⟨0, 0, 0⟩, true, true⟩

/-- A recorded switch takes effect at the boundary reached (R59). -/
def switchDue (recorded : Option SwitchMode) (a : Advance) : Bool :=
  match recorded with
  | some .atStepEnd => a.stepEnd
  | some .atPassEnd => a.passEnd
  | _ => false

/-- The lap of a bar in a fed course: its pair, or a rest (R61). -/
def rawLapOf (b : Block) (course bar : Nat) : RawLap :=
  match cellOf b course bar with
  | some c => if isRest c then ⟨bar, none⟩ else ⟨bar, some (c.front, c.back)⟩
  | none => ⟨bar, none⟩

/-- The position of a cell that exceeds a travel: the front position if it does, otherwise the back position (R62). -/
def overTravel (travel : Nat) (c : Cell) : Option Nat :=
  if isRest c then none
  else if travel < c.front then some c.front
  else if travel < c.back then some c.back
  else none

/-- The lowest assigned bar whose cell in the course exceeds its travel, with the offending position (R62). -/
def State.feedFault (s : State) (b : Block) (course : Nat) : Option (Nat × Nat) :=
  s.assignedBars.findSome? fun bar =>
    (cellOf b course bar).bind fun c => (overTravel (s.profile bar).travel c).map fun p => (bar, p)

/-- The conditions under which the player feeds (R60). -/
def State.canFeed (s : State) : Bool :=
  s.lists.source == .player && s.run.state != .standby && s.player.active.isSome &&
  (s.lists.current.isNone || s.lists.queue.length < Config.queueRoom) && !s.player.feedStopped && s.player.search.isNone

/-- The feed fails: the flag is set and FEED_STOPPED queued (R62). -/
def State.stopFeed (s : State) (step : SeqStep) (bar position : Nat) : State :=
  (s.updPlayer fun p => { p with feedStopped := true }).notifyTagged
    (.feedStopped s.player.cursor step.block) position bar s.player.fed

/-- One course is fed from the step's block: appended, then the cursor and the counters advance, and a recorded switch may
take effect (R58, R59, R61). -/
def State.feedCourse (s : State) (table : List SeqStep) (step : SeqStep) : State :=
  let p := s.player
  let blk := s.block step.block
  let a := advance table step blk.courses p.cursor
  let s1 := (s.append p.fed (.player p.cursor p.pass) none (s.assignedBars.map (rawLapOf blk p.cursor.course))).updPlayer
    fun p => { p with cursor := a.place, pass := if a.passEnd then p.pass + 1 else p.pass, fed := p.fed + 1 }
  match p.recorded with
  | some mode => if switchDue p.recorded a then s1.takeSwitch mode else s1
  | none => s1

/-- The player feeds the course that the cursor names, or the feed fails on it (R61, R62). -/
def State.feedOne (s : State) : State :=
  match s.player.active with
  | none => s
  | some table =>
    match table[s.player.cursor.step]? with
    | none => s
    | some step =>
      match s.feedFault (s.block step.block) s.player.cursor.course with
      | some (bar, position) => s.stopFeed step bar position
      | none => s.feedCourse table step

/-- The player feeds for as long as it may, at most `n` courses. -/
def State.feedUpTo : Nat → State → State
  | 0, s => s
  | n + 1, s => if s.canFeed then State.feedUpTo n s.feedOne else s

/-- The player feeds for as long as its conditions hold: a current record and 32 queued ones at most (R60). -/
def State.feed (s : State) : State := State.feedUpTo (Config.queueRoom + 1) s

/-! ### Requests of the player (04) -/

/-- Whether a block may be named by a sequence (R52). -/
def State.isReady (s : State) (id : Nat) : Bool := (s.block id).state == .ready

/-- The first bad field of WRITE SEQUENCE's steps, from field index `i` (R52). -/
def badStepField : Nat → List SeqStep → Option Nat
  | _, [] => none
  | i, t :: ts => if 127 < t.block then some i else if t.reps = 0 then some (i + 1) else badStepField (i + 2) ts

/-- WRITE SEQUENCE (R52, R53). -/
def State.writeSequence (s : State) (steps : List SeqStep) : State × Answer :=
  if steps.length < 1 || 64 < steps.length then (s, badField 0)
  else
    match badStepField 1 steps with
    | some i => (s, badField i)
    | none =>
      match firstBad (fun _ t => !s.isReady t.block) 0 [] steps with
      | some i => (s, ⟨.blockNotReady, [byteOf i]⟩)
      | none =>
        (((s.unpinOld s.player.pending).pin steps).updPlayer fun p => { p with pending := some steps },
          accept (beBytes 4 (s.passLength steps)))

/-- The reply payload of SWITCH SEQUENCE (10, 10.7). -/
def switchPayload (mode : SwitchMode) (switched : Bool) (fed : Tag) : List Byte :=
  byteOf (modeCode mode) :: boolByte switched :: (if switched then tagBytes fed else tagBytes 0)

/-- SWITCH SEQUENCE with mode NOW, once PENDING is known to exist (R54, R55). -/
def State.switchNow (s : State) : State × Answer :=
  if s.run.state ≠ .standby && s.run.state ≠ .hold then (s, refuse .wrongState)
  else if s.run.changing then (s, refuse .busy)
  else if s.player.search.isSome then (s, refuse .busy)
  else
    (((s.takeSwitch .now).updPlayer fun p => { p with feedStopped := false }).feed,
      accept (switchPayload .now true s.player.fed))

/-- A timed SWITCH SEQUENCE, once PENDING is known to exist: recorded, or taken at once without an ACTIVE table (R54). -/
def State.switchTimed (s : State) (mode : SwitchMode) : State × Answer :=
  if s.player.active.isNone then ((s.takeSwitch mode).feed, accept (switchPayload mode true s.player.fed))
  else (s.updPlayer fun p => { p with recorded := some mode }, accept (switchPayload mode false 0))

/-- SWITCH SEQUENCE (R54). -/
def State.switchSequence (s : State) (mode : Nat) : State × Answer :=
  if 2 < mode then (s, badField 0)
  else if s.player.pending.isNone then (s, refuse .noSequence)
  else
    match mode with
    | 0 => s.switchNow
    | 1 => s.switchTimed .atStepEnd
    | _ => s.switchTimed .atPassEnd

/-- The first field of a place that does not exist in a table: step, repeat or course (R64). -/
def State.badPlace (s : State) (table : List SeqStep) (c : FeedCursor) : Option Nat :=
  match table[c.step]? with
  | none => some 0
  | some t =>
    if t.reps ≤ c.rep then some 1
    else if (s.block t.block).courses ≤ c.course then some 2
    else none

/-- SET CURSOR (R64, R65). -/
def State.setCursor (s : State) (c : FeedCursor) : State × Answer :=
  if s.run.state ≠ .standby && s.run.state ≠ .hold then (s, refuse .wrongState)
  else if s.run.changing then (s, refuse .busy)
  else if s.player.search.isSome then (s, refuse .busy)
  else
    match s.player.active with
    | none => (s, refuse .noSequence)
    | some table =>
      match s.badPlace table c with
      | some i => (s, badField i)
      | none =>
        let s1 := s.updPlayer fun p => { p with cursor := c, pass := 0, fed := 0, feedStopped := false }
        (((s1.updLists fun l => { l.closeStream with source := .player }).clearLists).feed, accept [])

/-- The first bad field of LOCATE's targets, from field index `i` (R66). -/
def badTargetField : Nat → List Nat → List LocateTarget → Option Nat
  | _, _, [] => none
  | i, before, t :: ts =>
    if t.bar < 1 || 64 < t.bar || before.contains t.bar then some i
    else if 64 ≤ t.front && t.front ≠ 255 then some (i + 1)
    else badTargetField (i + 2) (before ++ [t.bar]) ts

/-- The first field of LOCATE that is out of range (R66). -/
def State.badLocateField (s : State) (table : List SeqStep) (c : FeedCursor) (stride : Nat) (ts : List LocateTarget) :
    Option Nat :=
  match s.badPlace table c with
  | some i => some i
  | none =>
    if stride < 1 || 8 < stride then some 3
    else if ts.length < 1 || 16 < ts.length then some 4
    else badTargetField 5 [] ts

/-- LOCATE (R66). -/
def State.locate (s : State) (c : FeedCursor) (stride : Nat) (ts : List LocateTarget) : State × Answer :=
  if s.run.state ≠ .standby && s.run.state ≠ .hold then (s, refuse .wrongState)
  else if s.player.search.isSome then (s, refuse .busy)
  else
    match s.player.active with
    | none => (s, refuse .noSequence)
    | some table =>
      match s.badLocateField table c stride ts with
      | some i => (s, badField i)
      | none => (s.updPlayer fun p => { p with search := some ⟨c, stride, ts, s.now⟩ }, accept [])

/-! ### The search (04, R67 to R69) -/

/-- The number of a place in feed order (R67). -/
def State.numberOf (s : State) (table : List SeqStep) (c : FeedCursor) : Nat :=
  s.passLength (table.take c.step) +
    c.rep * ((table[c.step]?.map fun t => (s.block t.block).courses).getD 0) + c.course

/-- The place with a number in feed order, and its step's block (R67). -/
def State.placeOf (s : State) : Nat → List SeqStep → Nat → Option (FeedCursor × Nat)
  | _, [], _ => none
  | i, t :: ts, n =>
    let k := (s.block t.block).courses
    if n < t.reps * k then some (⟨i, n / k, n % k⟩, t.block) else s.placeOf (i + 1) ts (n - t.reps * k)

/-- A target holds in a course (R67). -/
def targetHolds (b : Block) (course : Nat) (t : LocateTarget) : Bool :=
  t.front == 255 ||
    match cellOf b course t.bar with
    | some c => !isRest c && c.front == t.front
    | none => false

/-- What a search has found: the place and its block when FOUND, and the courses visited (R67, R69). -/
structure Finding where
  place : Option (FeedCursor × Nat)
  visited : Nat
  deriving DecidableEq, Repr

/-- The search from the course numbered `n`, with `visited` courses visited before it (R67). -/
def State.searchFrom (s : State) (table : List SeqStep) (q : Search) : Nat → Nat → Nat → Finding
  | 0, _, visited => ⟨none, visited⟩
  | fuel + 1, n, visited =>
    match s.placeOf 0 table n with
    | none => ⟨none, visited⟩
    | some (c, id) =>
      if q.targets.all (targetHolds (s.block id) c.course) then ⟨some (c, id), visited + 1⟩
      else s.searchFrom table q fuel (n + q.stride) (visited + 1)

/-- What the search in flight finds (R67). -/
def State.finding (s : State) (q : Search) : Finding :=
  let table := s.player.active.getD []
  s.searchFrom table q (s.passLength table + 1) (s.numberOf table q.start) 0

/-- The search time has elapsed: the flag clears, LOCATE_DONE is queued, and feeding may resume (R68, R69). -/
def State.endLocate (s : State) : State :=
  match s.player.search with
  | none => s
  | some q =>
    let f := s.finding q
    let s1 := (s.advanceTo (q.startedAt + divUp f.visited 8)).updPlayer fun p => { p with search := none }
    let place := (f.place.map Prod.fst).getD ⟨0, 0, 0⟩
    (s1.notifyTagged (.locateDone place f.visited) (if f.place.isSome then 0x01 else 0x00)
      ((f.place.map Prod.snd).getD 0) 0).feed

end Sys2Proof.Machine
end

