-- ==== Sys2Proof/Machine/RunControl.lean ====
section
/-! DEFINITION. The run controller (09): the transitions between run states, the steps that come due by their conditions
alone, and SET RUN STATE. -/

namespace Sys2Proof.Machine

/-- STATE_REACHED, with the run state before and the mask of channels FAULTED at the transition (R170). -/
def State.notifyReached (s : State) (before : RunState) (faulted : BarSet) : State :=
  s.notify (.stateReached faulted) (runStateCode s.run.state + if faulted = 0 then 0 else 0x80) (runStateCode before)

/-- The run state set, with nothing requested any more. -/
def State.enter (s : State) (next : RunState) : State :=
  s.updRun fun r => { r with state := next, requested := none, waiting := false, changing := false }

/-- Every assigned channel moves from OFF to ENERGIZING (07, R126). -/
def State.enableAll (s : State) : State :=
  s.mapChannels fun b c => if s.assigned b && c.state == .off then enabledChannel c else c

/-- Every assigned channel is done energizing: holding or FAULTED (R159). -/
def State.doneEnergizing (s : State) : Bool :=
  s.assignedBars.all fun b => (s.channel b).state.holding || (s.channel b).state == .faulted

/-- Entry into HOLD from STANDBY (R159). -/
def State.enterHoldFromStandby (s : State) : State :=
  (((s.enter .hold).replan.permitDue).feed).notifyReached s.run.state s.faultedSet

/-- The conditions that a request toward RUN waits for (R160). -/
def State.fitForRun (s : State) : Bool :=
  s.tracker.sync == .locked && s.tracker.stopped &&
  s.assignedBars.all (fun b => (s.channel b).state.holding && (s.channel b).referenced) &&
  s.lists.current.isSome && (s.tracker.angle < s.machine.ulStart || s.lists.successor.isSome) &&
  s.player.search.isNone

/-- A holding channel is asked to align: at once from IDLE, after energizing from IDLE_REDUCED (07, R127, R134). -/
def State.alignChannel (s : State) (b : Nat) (c : Channel) : Channel :=
  let mv := timedMove (s.profile b) c.setpoint (s.alignTarget b)
  if !s.assigned b then c
  else if c.state = .idle then { settled c with state := .aligning, move := some mv }
  else if c.state = .idleReduced then
    { settled c with state := .energizing, energizeTimer := some 0, pendingMove := some .alignment, move := some mv }
  else c

/-- WAITING gives way to CHANGING, and every assigned channel is asked to align (R160, R161). -/
def State.startAlignment (s : State) : State :=
  (s.mapChannels s.alignChannel).updRun fun r => { r with waiting := false, changing := true }

/-- Every assigned channel has reported that it is aligned (R161). -/
def State.allAligned (s : State) : Bool :=
  s.assignedBars.all fun b => (s.channel b).state == .aligning && (s.channel b).aligned

/-- The successor is bound on entry into RUN when the angle is at or above ul_start (05, R81). -/
def State.bindOnRun (s : State) : State :=
  if s.machine.ulStart ≤ s.tracker.angle && s.lists.successor.isSome then s.updLists fun l => { l with bound := true }
  else s

/-- Every ALIGNING channel becomes FOLLOWING and takes its first cam setpoint (07, R135). -/
def State.startFollowing (s : State) : State :=
  (s.mapChannels fun _ c =>
    if c.state = .aligning then { settled c with state := .following } else c).follow

/-- Entry into RUN (R162). -/
def State.enterRun (s : State) : State :=
  let s1 := ((s.enter .run).bindOnRun.startFollowing).replan.permitDue
  ((s1.updRun fun r => { r with peak := s1.run.published }).notifyReached s.run.state s.faultedSet).stoppedCheck

/-- A channel on entry into HOLD from RUN or HALT: FOLLOWING goes to IDLE, FAULTED is enabled (R164, 07 R125). -/
def holdChannel (m : MachineRecord) (c : Channel) : Channel :=
  match c.state with
  | .following => toIdle m c
  | .faulted => enabledChannel c
  | _ => c

/-- Entry into HOLD from RUN or HALT (R164). -/
def State.enterHold (s : State) : State :=
  let s1 := ((s.enter .hold).updRun fun r => { r with halt := none }).updLists Lists.released
  let s2 := (s1.mapChannels fun _ c => holdChannel s.machine c).replan.permitDue
  s2.feed.notifyReached s.run.state s.faultedSet

/-- Entry into STANDBY (R165). -/
def State.enterStandby (s : State) : State :=
  let s1 := (s.enter .standby).updRun fun r => { r with halt := none }
  let s2 := s1.endMotions .aborted .aborted toOff toOff
  let s3 := s2.mapChannels fun _ c => if c.state = .absent then c else toOff c
  let s4 := ((s3.updLists Lists.closeStream).clearLists).updPlayer fun p => { p with feedStopped := false }
  s4.permitDue.notifyReached s.run.state s.faultedSet

/-! ### Steps that come due by their conditions alone (log 5) -/

/-- A step of the run controller that is due as soon as its conditions hold. -/
inductive DueStep where
  | enterHoldFromStandby | alignmentStart | enterRun | enterHold | enterStandby
  deriving DecidableEq, Repr

/-- The step that is due, if any: the end of a change (R159, R162), of a wait toward RUN (R160) or of a leave request's
wait for STOPPED (R163). -/
def State.dueStep (s : State) : Option DueStep :=
  match s.run.changing, s.run.waiting, s.run.requested, s.run.state with
  | true, _, some .hold, .standby => if s.doneEnergizing then some .enterHoldFromStandby else none
  | true, _, some .run, .hold => if s.allAligned then some .enterRun else none
  | false, true, some .run, .hold => if s.fitForRun then some .alignmentStart else none
  | false, true, some .hold, .run | false, true, some .hold, .halt =>
    if s.tracker.stopped then some .enterHold else none
  | false, true, some .standby, .run | false, true, some .standby, .halt =>
    if s.tracker.stopped then some .enterStandby else none
  | _, _, _, _ => none

/-- A due step is taken. -/
def State.perform (s : State) : DueStep → State
  | .enterHoldFromStandby => s.enterHoldFromStandby
  | .alignmentStart => s.startAlignment
  | .enterRun => s.enterRun
  | .enterHold => s.enterHold
  | .enterStandby => s.enterStandby

/-- The step that is due is taken. -/
def State.takeDue (s : State) : State :=
  match s.dueStep with
  | some d => s.perform d
  | none => s

/-- Every step that is due is taken; only the start of an alignment can make another due (with no bar assigned, R161). -/
def State.settleRun (s : State) : State := s.takeDue.takeDue

/-! ### SET RUN STATE (R156 to R158) -/

/-- The target of SET RUN STATE (section 9.3). -/
def targetOf (code : Nat) : Option Target :=
  match code with
  | 0 => some .standby
  | 1 => some .hold
  | 2 => some .run
  | _ => none

/-- The run state that a target names. -/
def Target.state : Target → RunState
  | .standby => .standby
  | .hold => .hold
  | .run => .run

/-- The refusals of a request toward RUN taken in HOLD, cases 3 to 5 (R156). -/
def State.refuseRun (s : State) : Option Answer :=
  match s.assignedBars.find? fun b => !(s.channel b).referenced with
  | some b => some ⟨.notReferenced, [byteOf b]⟩
  | none =>
    if s.lists.source = .player && s.player.active.isNone then some (refuse .noSequence)
    else if s.lists.source = .stream && !s.lists.streamOpen && !s.lists.endSeen then some (refuse .noStream)
    else none

/-- The request waits (R160, R163). -/
def State.startWait (s : State) (t : Target) : State :=
  (s.updRun fun r => { r with waiting := true, requested := some t }).publish

/-- The waiting request is cancelled (R157). -/
def State.cancelWait (s : State) : State :=
  (s.updRun fun r => { r with waiting := false, requested := none }).publish

/-- The table of transitions, for a request that is not refused (R156, R157). -/
def State.takeUp (s : State) (t : Target) : State :=
  if s.run.state = t.state then s.cancelWait
  else
    match s.run.state, t with
    | .standby, _ => (s.updRun fun r => { r with changing := true, requested := some .hold }).enableAll
    | .hold, .standby => s.enterStandby
    | _, _ => s.startWait t

/-- The request is registered as bad: RUN asked for in STANDBY or HALT (R158). -/
def State.registersBad (s : State) (t : Target) : Bool :=
  t == .run && (s.run.state == .standby || s.run.state == .halt)

/-- SET RUN STATE (R156 to R158). -/
def State.setRunState (s : State) (code : Nat) : State × Answer :=
  match targetOf code with
  | none => (s, badField 0)
  | some t =>
    if s.run.changing then (s, refuse .busy)
    else
      match if s.run.state = .hold && t = .run then s.refuseRun else none with
      | some a => (s, a)
      | none =>
        if s.registersBad t then
          (((s.updRun fun r => { r with badRequest := true }).takeUp .hold).settleRun, ⟨.registeredBad, []⟩)
        else (((s.updRun fun r => { r with badRequest := false }).takeUp t).settleRun, accept [])

end Sys2Proof.Machine
end

