-- ==== Sys2Proof/Machine/Channels.lean ====
section
/-! DEFINITION. The bar channels' dealings with their drives (07): the exchange with its timers and the setpoint it sends,
the status frames with the fault and following checks; with them the motion of jogs and referencings (08) and the requests
JOG and REFERENCE. -/

namespace Sys2Proof.Machine

/-! ### The beginning of an exchange (R118, R120, R126 to R128) -/

/-- The code of a drive view (R114). -/
def driveViewCode : DriveView → Nat
  | .unknown => 0x00
  | .ready => 0x01
  | .notReady => 0x02
  | .silent => 0x03

/-- A DRIVE_CHANGE notice for a change of view that is not from UNKNOWN (R123). -/
def State.notifyView (s : State) (b : Nat) (before : DriveView) : State :=
  let c := s.channel b
  if before = .unknown || before = c.view then s
  else
    match c.last with
    | none => s
    | some d => s.updLink fun l => l.offerDriveChange
        ⟨.driveChange before d.fault d.switch d.actual, driveViewCode c.view, b, s.currentTag, s.tracker.angle⟩

/-- The exchange before this one ended without a status (R120). -/
def missedStatus (c : Channel) : Bool := c.exchanging && !c.taken

/-- With this missing status the count reaches 4 (R120; log 11). -/
def reachesLost (c : Channel) : Bool := missedStatus c && c.missed == 3

/-- The exchange before is judged for a missing status; at the fourth the drive is lost (R120). -/
def State.judgeMissing (s : State) (b : Nat) : State :=
  let c := s.channel b
  if reachesLost c then
    let s1 := s.updChannel b fun c => { c with missed := 4, view := .silent }
    if c.state.enabled then s1.faultUncompared b .driveLost 0 else s1.notifyView b c.view
  else if missedStatus c then s.updChannel b fun c => { c with missed := min 4 (c.missed + 1) }
  else s

/-- The running timers gain one exchange (R118). -/
def advanceTimers (c : Channel) : Channel :=
  { c with
    enableTimer := c.enableTimer.map (· + Config.exchangeTime)
    energizeTimer := c.energizeTimer.map (· + Config.exchangeTime)
    holdTimer := c.holdTimer.map (· + Config.exchangeTime)
    settleTimer := c.settleTimer.map (· + Config.exchangeTime) }

/-- A timer has reached a time given in ms (R118). -/
def timerEnds (timer : Option Nat) (ms : Nat) : Bool :=
  match timer with
  | some t => 1000 * ms ≤ t
  | none => false

/-- The timer that ends, of the one that a channel runs (R126 to R128, 08 R150). -/
inductive Expiry where
  | none | enable | energize | hold | settle
  deriving DecidableEq, Repr

/-- What the timers of a channel have come to (R126, R128, 08 R150). -/
def expiryOf (m : MachineRecord) (c : Channel) : Expiry :=
  match c.state with
  | .energizing =>
    if timerEnds c.enableTimer m.enableTimeout then .enable
    else if timerEnds c.energizeTimer m.energizeTime then .energize
    else .none
  | .idle => if m.holdDelay ≠ 0 && timerEnds c.holdTimer m.holdDelay then .hold else .none
  | .jogging => if timerEnds c.settleTimer m.settleTimeout then .settle else .none
  | _ => .none

/-- The energize time ends: IDLE, or the pending move starts (R126, R127). -/
def energized (m : MachineRecord) (c : Channel) : Channel :=
  match c.pendingMove with
  | none => toIdle m c
  | some .jog => { c with state := .jogging, pendingMove := none, energizeTimer := none }
  | some .referencing => { c with state := .referencing, phase := none, pendingMove := none, energizeTimer := none }
  | some .alignment => { c with state := .aligning, aligned := false, pendingMove := none, energizeTimer := none }

/-- The channel reduces its holding current (R128). -/
def reduced (c : Channel) : Channel := { c with state := .idleReduced, holdTimer := none }

/-- An expiry is acted on (R126 to R128, 08 R150). -/
def State.expire (s : State) (b : Nat) : Expiry → State
  | .none => s
  | .enable => s.faultUncompared b .driveFault notReadyDetail
  | .energize => s.updChannel b (energized s.machine)
  | .hold => s.updChannel b reduced
  | .settle => s.endJog b .notInPosition (toIdle s.machine)

/-! ### The setpoint that an exchange sends (R115, R118, R134; 08 R141 to R143, R149) -/

/-- The step of LEAVE and SEARCH in one exchange (08, R141). -/
def homingStep (p : Profile) : Int := (p.homing / 4 : Nat)

/-- The leave limit: two pitches above the start (08, R141). -/
def leaveLimit (m : MachineRecord) (start : Int) : Int := min Config.coordMax (start + 2 * m.pitch)

/-- The search limit: the search travel below the start (08, R142). -/
def searchLimit (p : Profile) (start : Int) : Int := max Config.coordMin (start - p.search)

/-- SEARCH begins from the setpoint as it stands (08, R142). -/
def beginSearch (p : Profile) (c : Channel) : Channel :=
  { c with phase := some .search, limit := searchLimit p c.setpoint, limitSent := 0 }

/-- The referencing motion begins: LEAVE when the last status shows the switch active, else SEARCH (08, R141; log 26). -/
def beginReferencing (m : MachineRecord) (p : Profile) (c : Channel) : Channel :=
  if (c.last.map DriveStatus.switch).getD false then
    { c with phase := some .leave, limit := leaveLimit m c.setpoint, limitSent := 0 }
  else beginSearch p c

/-- The setpoint moved toward the limit of LEAVE or SEARCH, and the exchanges that send the limit counted up to 2. -/
def stepTo (c : Channel) (x : Int) : Channel :=
  { c with setpoint := x, limitSent := if x = c.limit then min 2 (c.limitSent + 1) else c.limitSent }

/-- The setpoint of LEAVE or SEARCH in this exchange (08, R141, R142). -/
def homingSetpoint (p : Profile) (c : Channel) : Channel :=
  match c.phase with
  | some .leave => stepTo c (min c.limit (c.setpoint + homingStep p))
  | some .search => stepTo c (max c.limit (c.setpoint - homingStep p))
  | _ => c

/-- The setpoint of a timed move in this exchange. -/
def movedSetpoint (c : Channel) : Channel :=
  match c.move with
  | some mv => { c with setpoint := mv.place, move := some { mv with sent := mv.sent + 1 } }
  | none => c

/-- The setpoint as the channel's state moves it in this exchange (R115). -/
def nextSetpoint (m : MachineRecord) (p : Profile) (c : Channel) : Channel :=
  match c.state with
  | .jogging | .aligning => movedSetpoint c
  | .referencing =>
    match c.phase with
    | none => homingSetpoint p (beginReferencing m p c)
    | some .zero => movedSetpoint c
    | some _ => homingSetpoint p c
  | _ => c

/-- The move that first sends its target in this exchange. -/
inductive Arrival where
  | none | jog | zero | alignment
  deriving DecidableEq, Repr

/-- Whether the exchange that comes is the first to send a move's target (R134; 08 R143, R149). -/
def arrivalOf (c : Channel) : Arrival :=
  match c.move with
  | none => .none
  | some mv =>
    if mv.arrives then
      match c.state, c.phase with
      | .jogging, _ => .jog
      | .aligning, _ => .alignment
      | .referencing, some .zero => .zero
      | _, _ => .none
    else .none

/-- The setpoint frame goes out with the values of the present state, and the last two setpoints are kept (R118). -/
def sent (b now : Nat) (c : Channel) : Channel :=
  { c with
    sentOld := c.sentNew
    sentNew := c.setpoint
    frame := setpointFrame b c.state.enabled (c.state == .idleReduced) c.setpoint
    exchanging := true
    taken := false
    exchangeAt := now + Config.exchangeTime }

/-- The jog has sent its target: the settle timer starts (08, R149, R150). -/
def jogArrived (c : Channel) : Channel :=
  { c with lastTarget := (c.jog.map Jog.target).getD c.lastTarget, settleTimer := some 0, move := none }

/-- The zero move is complete: referenced and IDLE at index 0 (08, R143). -/
def zeroArrived (m : MachineRecord) (c : Channel) : Channel := { toIdle m c with referenced := true, lastTarget := 0 }

/-- The channel reports that it is aligned (R134). -/
def alignArrived (c : Channel) : Channel := { c with aligned := true, move := none }

/-- What the first sending of a move's target brings about (R134; 08 R143, R149). -/
def State.arrive (s : State) (b : Nat) : Arrival → State
  | .none => s
  | .jog => s.updChannel b jogArrived
  | .zero => (s.updChannel b (zeroArrived s.machine)).finishBar b .found
  | .alignment => s.updChannel b alignArrived

/-- The exchange sends its setpoint frame (R118). -/
def State.send (s : State) (b : Nat) : State :=
  (s.updChannel b fun c => sent b s.now (nextSetpoint s.machine (s.profile b) c)).arrive b (arrivalOf (s.channel b))

/-- The beginning of an exchange: the missing status and the timers (R118). -/
def State.beginExchange (s : State) (b : Nat) : State :=
  let s1 := ((s.advanceTo (s.channel b).exchangeAt).judgeMissing b).updChannel b advanceTimers
  s1.expire b (expiryOf s1.machine (s1.channel b))

/-- One exchange of a channel that is not ABSENT (R118). -/
def State.exchangeBar (s : State) (b : Nat) : State :=
  if (s.channel b).state = .absent then s else (s.beginExchange b).send b

/-- What the timers of a bar come to in the exchange that begins now, when its drive is not lost in it (log 6). -/
def State.comingExpiry (s : State) (b : Nat) : Expiry :=
  if reachesLost (s.channel b) then .none else expiryOf s.machine (advanceTimers (s.channel b))

/-- The move whose target the exchange that begins now sends first (log 6). -/
def State.comingArrival (s : State) (b : Nat) : Arrival := arrivalOf ((s.beginExchange b).channel b)

/-! ### Status frames (R119, R121 to R123, R126; 08 R141, R142, R150) -/

/-- The states in which every status is checked for following (R122). -/
def ChannelState.followChecked : ChannelState → Bool
  | .jogging | .referencing | .aligning | .following => true
  | _ => false

/-- The difference between an actual position and a setpoint, without sign. -/
def apart (x y : Int) : Nat := (x - y).natAbs

/-- The view that a status gives (R119). -/
def viewOf (d : DriveStatus) : DriveView := if d.ready then .ready else .notReady

/-- The channel's setpoint tracks the actual position of each status: in OFF and FAULTED, and in ENERGIZING before ready is
first seen (R115, R126). -/
def Channel.tracks (c : Channel) : Bool :=
  match c.state with
  | .off | .faulted => true
  | .energizing => !c.readySeen
  | _ => false

/-- The channel takes a status, and its setpoint tracks where its state says so, whatever the checks then find (R115, R119). -/
def statusTaken (d : DriveStatus) (c : Channel) : Channel :=
  { c with
    missed := 0, taken := true, last := some d, view := viewOf d
    setpoint := if c.tracks then d.actual else c.setpoint }

/-- ENERGIZING before ready is seen: the first ready stops the enable timer and starts the energize timer (R126). -/
def energizingStatus (d : DriveStatus) (c : Channel) : Channel :=
  if !c.readySeen && d.ready then { c with readySeen := true, enableTimer := none, energizeTimer := some 0 } else c

/-- A channel's referencing finishes with NOT_FOUND (08, R144). -/
def State.notFound (s : State) (b : Nat) : State :=
  (s.updChannel b fun c => toIdle s.machine (unreferenced c)).finishBar b .notFound

/-- The bar's span above a candidate reference point fits in the drive coordinate range (08, R142). -/
def spanFits (m : MachineRecord) (p : Profile) (candidate : Int) : Bool :=
  candidate + p.zeroOffset + p.travel * m.pitch ≤ Config.coordMax

/-- SEARCH has found the switch: the reference point, and ZERO begins (08, R142, R143). -/
def beginZero (p : Profile) (candidate : Int) (c : Channel) : Channel :=
  { c with
    phase := some .zero, refPoint := some candidate,
    move := some (timedMove p c.setpoint (candidate + p.zeroOffset)) }

/-- A status in REFERENCING (08, R141, R142). -/
def State.referencingStatus (s : State) (b : Nat) (d : DriveStatus) : State :=
  let c := s.channel b
  let p := s.profile b
  match c.phase with
  | some .leave =>
    if !d.switch then s.updChannel b (beginSearch p)
    else if c.limitSent = 2 then s.notFound b
    else s
  | some .search =>
    if d.switch then
      if spanFits s.machine p d.actual then s.updChannel b (beginZero p d.actual) else s.notFound b
    else if c.limitSent = 2 then s.notFound b
    else s
  | _ => s

/-- A status in JOGGING: within the in-position band during the settle time it ends the jog (08, R150). -/
def State.joggingStatus (s : State) (b : Nat) (d : DriveStatus) : State :=
  match (s.channel b).settleTimer, (s.channel b).jog with
  | some _, some j => if apart d.actual j.coord ≤ s.machine.inPosition then s.endJog b .ok (toIdle s.machine) else s
  | _, _ => s

/-- A status that raises no fault, in an enabled state. -/
def State.goodStatus (s : State) (b : Nat) (d : DriveStatus) : State :=
  match (s.channel b).state with
  | .energizing => s.updChannel b (energizingStatus d)
  | .referencing => s.referencingStatus b d
  | .jogging => s.joggingStatus b d
  | _ => s

/-- A status taken by its channel, which tracks in the state that it finds (R115), and then the checks of an enabled state or the
change of view (R119). A status that takes a channel to FAULTED from a state whose setpoint does not track leaves the setpoint;
the next one, taken in FAULTED, sets it (the model's choice, log 30). -/
def State.takeStatus (s : State) (b : Nat) (d : DriveStatus) : State :=
  let c := s.channel b
  if c.state = .absent || c.taken then s
  else
    let s1 := s.updChannel b (statusTaken d)
    if c.state.enabled then
      if d.fault ≠ 0 then s1.faultUncompared b .driveFault d.fault
      else if !d.ready && c.readySeen then s1.faultUncompared b .driveFault notReadyDetail
      else if c.state.followChecked && s.machine.followLimit < apart d.actual c.sentOld then
        s1.faultChannel b .barFollow 0 (apart d.actual c.sentOld) c.sentOld
      else s1.goodStatus b d
    else s1.notifyView b c.view

/-- A status frame on a drive line (R119). -/
def State.receiveStatus (s : State) (line : DriveLine) (bytes : List Byte) : State :=
  match parseStatus bytes with
  | some (b, d) => if onLine line b then s.takeStatus b d else s
  | none => s

/-! ### REFERENCE and JOG (08) -/

/-- The code of a channel state (R114). -/
def channelCode : ChannelState → Nat
  | .absent => 0x00
  | .off => 0x01
  | .energizing => 0x02
  | .idle => 0x03
  | .idleReduced => 0x04
  | .jogging => 0x05
  | .referencing => 0x06
  | .aligning => 0x07
  | .following => 0x08
  | .faulted => 0x09

/-- A selected channel starts its referencing: at once from IDLE, after energizing from IDLE_REDUCED (08, R140). -/
def startReferencing (c : Channel) : Channel :=
  if c.state = .idle then { unreferenced (settled c) with state := .referencing }
  else { unreferenced (settled c) with
    state := .energizing, energizeTimer := some 0, pendingMove := some .referencing }

/-- An accepted REFERENCE (08, R138, R140). -/
def State.startReference (s : State) (bars : BarSet) (extension : Nat) : State :=
  { s.mapChannels fun b c => if inSet bars b then startReferencing c else c with
    referencing := some ⟨bars, bars, 0, 0, s.now, 10 + extension⟩ }

/-- REFERENCE (08, R139). -/
def State.reference (s : State) (bars : BarSet) (extension : Nat) : State × Answer :=
  if s.run.state ≠ .hold then (s, refuse .wrongState)
  else if s.run.changing then (s, refuse .busy)
  else if s.referencing.isSome then (s, refuse .busy)
  else if !s.tracker.stopped then (s, refuse .shaftMoving)
  else if bars = 0 then (s, badField 0)
  else
    match (barsOf bars).find? fun b => !s.assigned b with
    | some b => (s, ⟨.badField, [byteOf 0, byteOf b]⟩)
    | none =>
      match (barsOf bars).find? fun b => !(s.channel b).state.holding with
      | some b => (s, ⟨.busy, [byteOf b, byteOf (channelCode (s.channel b).state)]⟩)
      | none => (s.startReference bars extension, accept (beBytes 2 (10 + extension)))

/-- The referencing allowance expires (08, R145). -/
def State.expireAllowance (s : State) : State :=
  match s.referencing with
  | none => s
  | some r =>
    (s.advanceTo (r.startedAt + 1000000 * r.seconds)).finishRemaining .timeout fun c => toIdle s.machine (unreferenced c)

/-- The jog of a bar to an index, as its channel stands (08, R149). -/
def State.jogOf (s : State) (b target : Nat) : Jog :=
  let c := s.channel b
  let coord := coordOf s.machine (s.profile b) (c.refPoint.getD 0) target
  ⟨target, coord, moveTime (s.profile b) (coord - c.setpoint).natAbs⟩

/-- A channel starts a jog: at once from IDLE, after energizing from IDLE_REDUCED (08, R149). -/
def startJog (p : Profile) (j : Jog) (c : Channel) : Channel :=
  let c1 := { settled c with jog := some j, move := some (timedMove p c.setpoint j.coord) }
  if c.state = .idle then { c1 with state := .jogging }
  else { c1 with state := .energizing, energizeTimer := some 0, pendingMove := some .jog }

/-- JOG (08, R148, R149). -/
def State.jog (s : State) (b target : Nat) : State × Answer :=
  if s.run.state ≠ .hold then (s, refuse .wrongState)
  else if s.run.changing then (s, refuse .busy)
  else if !s.tracker.stopped then (s, refuse .shaftMoving)
  else if !barExists b then (s, badField 0)
  else if !(s.channel b).referenced then (s, refuse .notReferenced)
  else if !(s.channel b).state.holding then (s, ⟨.busy, [byteOf (channelCode (s.channel b).state)]⟩)
  else if s.link.notices.any fun n => n.jogDoneBar == some b then (s, refuse .noticePending)
  else if (s.profile b).travel < target then (s, refuse .badPosition)
  else
    (s.updChannel b (startJog (s.profile b) (s.jogOf b target)), accept (beBytes 4 (s.jogOf b target).time))

end Sys2Proof.Machine
end

