-- ==== Sys2Proof/Machine/Queries.lean ====
section
/-! DEFINITION. What the part tells the host: notice records in bytes and FETCH NOTICE (10, R182, R184), IDENT (R186), STATUS
(R187), GET POSITION (R188) and PLAN REPORT (06, R111, R112). -/

namespace Sys2Proof.Machine

/-! ### Codes -/

/-- The code of a target state (09, section 9.3). -/
def targetCode : Target → Nat
  | .standby => 0x00
  | .hold => 0x01
  | .run => 0x02

/-- The code of a requested state, 0xFF for none (R187). -/
def requestedCode : Option Target → Nat
  | some t => targetCode t
  | none => 0xFF

/-- The code of a list source (R187). -/
def sourceCode : Source → Nat
  | .player => 0x00
  | .stream => 0x01

/-- The code of a reset cause (09, R152). -/
def resetCode : ResetCause → Nat
  | .powerOn => 0x00
  | .resetPin => 0x01
  | .resetFull => 0x02
  | .resetMotion => 0x03

/-- The code of a direction (R188). -/
def directionCode : Direction → Nat
  | .forward => 0x00
  | .backward => 0x01

/-- The code of a cause of SYNC_CHANGE (01, R17). -/
def syncCauseCode : SyncCause → Nat
  | .firstCount => 0x01
  | .indexFound => 0x02
  | .indexConfirmed => 0x03
  | .indexMismatch => 0x04
  | .encoderError => 0x05
  | .settingsChanged => 0x06

/-- The bytes of a bar set (00, Conventions). -/
def setBytes (m : BarSet) : List Byte := beBytes 8 m.toNat

/-- A speed in two bytes and a flag for it: 0 with no measurement. -/
def speedBytes (speed : Option Nat) : List Byte := beBytes 2 (speed.getD 0)

/-- The bytes of a place in a sequence table: step, repeat, course (10, section 10.7). -/
def placeBytes (c : FeedCursor) : List Byte := beBytes 1 c.step ++ beBytes 1 c.rep ++ beBytes 2 c.course

/-! ### Notices (10, section 10.7) -/

/-- The code of a notice's kind. -/
def reportCode : Report → Nat
  | .stateReached _ => 0x01
  | .stateFailed _ _ _ _ => 0x02
  | .halted _ _ _ _ => 0x03
  | .furtherFault _ _ _ _ => 0x04
  | .barFault _ _ _ _ => 0x05
  | .driveChange _ _ _ _ => 0x06
  | .jogDone _ _ _ => 0x07
  | .referenceDone _ => 0x08
  | .syncChange _ _ _ => 0x09
  | .sequenceSwitched _ _ => 0x0A
  | .locateDone _ _ => 0x0B
  | .feedStopped _ _ => 0x0C
  | .starved _ _ _ => 0x0D
  | .infeasibleCourse _ _ _ => 0x0E
  | .runEnd _ _ => 0x0F
  | .linkOverrun _ _ => 0x10
  | .blockReady _ _ _ => 0x11

/-- The extra field of HALTED and FURTHER_FAULT. -/
def haltExtra (detail : Nat) (speed : Option Nat) (peak : Nat) (requested : Option Target) : List Byte :=
  beBytes 1 detail ++ speedBytes speed ++ beBytes 2 peak ++ beBytes 1 (requestedCode requested) ++ [boolByte speed.isNone]

/-- The extra field of a notice, before it is filled up to 8 bytes. -/
def reportExtra : Report → List Byte
  | .stateReached faulted => setBytes faulted
  | .stateFailed target changing after detail =>
    beBytes 1 (targetCode target) ++ [boolByte changing] ++ beBytes 1 (runStateCode after) ++ beBytes 1 detail
  | .halted detail speed peak requested => haltExtra detail speed peak requested
  | .furtherFault detail speed peak requested => haltExtra detail speed peak requested
  | .barFault before detail error compared =>
    beBytes 1 (channelCode before) ++ beBytes 1 detail ++ beBytes 3 error ++ signedBytes compared
  | .driveChange before fault switch actual =>
    beBytes 1 (driveViewCode before) ++ beBytes 1 fault ++ [boolByte switch] ++ signedBytes actual
  | .jogDone target difference time => beBytes 1 target ++ signedBytes difference ++ beBytes 4 time
  | .referenceDone found => setBytes found
  | .syncChange before cause angleBefore =>
    beBytes 1 (syncCode before) ++ beBytes 1 (syncCauseCode cause) ++ beBytes 2 angleBefore
  | .sequenceSwitched pass steps => tagBytes pass ++ beBytes 1 steps
  | .locateDone place visited => placeBytes place ++ beBytes 4 visited
  | .feedStopped place block => placeBytes place ++ beBytes 1 block
  | .starved source history feedStopped => beBytes 1 (sourceCode source) ++ beBytes 1 history ++ [boolByte feedStopped]
  | .infeasibleCourse distance window time => beBytes 1 distance ++ beBytes 2 window ++ beBytes 4 time
  | .runEnd source history => beBytes 1 (sourceCode source) ++ beBytes 1 history
  | .linkOverrun tag kind => tagBytes tag ++ beBytes 1 kind
  | .blockReady digest courses cells => beBytes 2 digest.toNat ++ beBytes 2 courses ++ beBytes 4 cells

/-- Bytes filled up to `n` with zeros. -/
def padded (n : Nat) (bs : List Byte) : List Byte := bs ++ List.replicate (n - bs.length) 0

/-- The 18 bytes of a notice record. -/
def noticeBytes (n : Notice) : List Byte :=
  beBytes 1 (reportCode n.report) ++ beBytes 1 n.detail ++ beBytes 2 n.subject ++ tagBytes n.tag ++ beBytes 2 n.angle ++
    padded 8 (reportExtra n.report)

/-- The oldest notice removed; the removal that empties the queue clears the overflow flag (R184). -/
def Link.dropNotice (l : Link) : Link :=
  { l with notices := l.notices.tail, overflow := l.overflow && decide (1 < l.notices.length) }

/-- FETCH NOTICE (R184). -/
def State.fetchNotice (s : State) : State × Answer :=
  match s.link.notices with
  | [] => (s, accept [boolByte false, 0, boolByte s.link.overflow])
  | n :: rest =>
    (s.updLink Link.dropNotice,
      accept (boolByte true :: noticeBytes n ++ beBytes 1 rest.length ++ [boolByte s.link.overflow]))

/-! ### IDENT and STATUS (R186, R187) -/

/-- The payload of IDENT (R186). -/
def identBytes : List Byte :=
  beBytes 2 0x0E31 ++ beBytes 2 0x0640 ++ beBytes 1 1 ++ beBytes 1 64 ++ beBytes 1 128 ++ beBytes 4 262144 ++
    beBytes 1 64 ++ beBytes 1 32 ++ beBytes 1 16

/-- The halt record in STATUS, zeros when absent (R187; log 17). -/
def haltBytes : Option HaltRecord → List Byte
  | none => List.replicate 12 0
  | some h =>
    beBytes 1 (causeCode h.cause) ++ beBytes 1 h.detail ++ beBytes 1 h.bar ++ tagBytes h.tag ++ beBytes 2 h.angle ++
      speedBytes h.speed ++ [boolByte h.speed.isSome]

/-- A tag that may be absent: a presence byte and the tag, 0 when absent (R187; log 17). -/
def optionalTag (t : Option Tag) : List Byte := boolByte t.isSome :: tagBytes (t.getD 0)

/-- The payload of STATUS (R187). -/
def State.statusBytes (s : State) : List Byte :=
  beBytes 1 (runStateCode s.run.state) ++ beBytes 1 (requestedCode s.run.requested) ++ [s.runFlags] ++
    haltBytes s.run.halt ++ beBytes 1 (syncCode s.tracker.sync) ++ [boolByte s.tracker.stopped] ++
    beBytes 2 s.tracker.angle ++ optionalTag (s.lists.current.map CourseRecord.tag) ++
    beBytes 1 s.lists.history.length ++ beBytes 1 s.lists.replay.length ++ beBytes 1 s.lists.queue.length ++
    beBytes 1 (sourceCode s.lists.source) ++ [s.listFlags] ++ beBytes 2 s.run.published ++ beBytes 2 s.run.peak ++
    setBytes s.referencedSet ++ [s.operationFlags] ++ beBytes 1 s.link.notices.length ++ [boolByte s.link.overflow] ++
    beBytes 1 (resetCode s.run.resetCause)

/-! ### GET POSITION and PLAN REPORT (R188; 06, R111, R112) -/

/-- The origin of a record: kind, then step, repeat, course and pass count, all zero for STREAM (R188). -/
def originBytes : Origin → List Byte
  | .player place pass => beBytes 1 0x00 ++ placeBytes place ++ tagBytes pass
  | .stream => beBytes 1 0x01 ++ placeBytes ⟨0, 0, 0⟩ ++ tagBytes 0

/-- The current record in GET POSITION (R188). -/
def presentBytes : Option CourseRecord → List Byte
  | none => [boolByte false]
  | some r => boolByte true :: tagBytes r.tag ++ originBytes r.origin

/-- The payload of GET POSITION (R188). -/
def State.positionBytes (s : State) : List Byte :=
  presentBytes s.lists.current ++ beBytes 2 s.tracker.angle ++ beBytes 1 (directionCode s.tracker.direction) ++
    [boolByte s.tracker.stopped] ++ speedBytes s.tracker.speed ++ [boolByte s.tracker.speed.isSome] ++
    beBytes 1 (syncCode s.tracker.sync) ++ beBytes 2 s.lists.behind ++ beBytes 2 s.lists.ahead

/-- A ceiling place: presence and value, 0 when absent (R112). -/
def ceilingPlace (r : Option CourseRecord) : List Byte :=
  match r.bind CourseRecord.ceiling with
  | some c => boolByte true :: beBytes 2 c.value
  | none => boolByte false :: beBytes 2 0

/-- The records from the current one forward in knit order (05, R73). -/
def Lists.forward (l : Lists) : List CourseRecord := l.current.toList ++ l.after

/-- The bar of a limit source, 0 for VMAX and CAP. -/
def limitBar : LimitSource → Nat
  | .bar b _ => b
  | _ => 0

/-- The limiting term: kind, index, presence, tag, limit source and bar (R111, R96; log 17). -/
def termBytes : LimitTerm → List Byte
  | .none => beBytes 1 0x00 ++ beBytes 1 0 ++ [boolByte false] ++ tagBytes 0 ++ beBytes 1 0 ++ beBytes 1 0
  | .ceiling j tag source =>
    beBytes 1 0x01 ++ beBytes 1 j ++ [boolByte true] ++ tagBytes tag ++ beBytes 1 (limitCode source) ++
      beBytes 1 (limitBar source)
  | .tail n => beBytes 1 0x02 ++ beBytes 1 n ++ [boolByte false] ++ tagBytes 0 ++ beBytes 1 0 ++ beBytes 1 0

/-- The payload of PLAN REPORT (R111, R112). -/
def State.planBytes (s : State) : List Byte :=
  beBytes 2 s.planner.permit ++ beBytes 2 s.run.published ++ beBytes 1 s.lists.after.length ++
    ((List.range 8).flatMap fun k => ceilingPlace s.lists.forward[k]?) ++ termBytes s.planner.term

end Sys2Proof.Machine
end

