-- ==== Sys2Proof/Machine/Operands.lean ====
section
/-! DEFINITION. The judging of the fields that the settings requests carry (02, R20, R21, R25, R28): each field against its own
range in index order, the first bad one naming the refusal. -/

namespace Sys2Proof.Machine

/-- The value lies in a range, both ends counted in (00, Conventions). -/
def within (low high v : Nat) : Bool := low ≤ v && v ≤ high

/-- The index of the first check that fails, counted on from `i`. -/
def firstFalse : Nat → List Bool → Option Nat
  | _, [] => none
  | i, good :: rest => if good then firstFalse (i + 1) rest else some i

/-- The seventeen field checks of the machine record in index order; fields 3 to 6 are the window limits (R20, R21). -/
def machineChecks (m : MachineRecord) : List Bool :=
  [ within 200 5000 m.pitch
  , within 0 3999 m.indexAngle
  , within 1 20 m.tolerance
  , within 0 3799 m.ovStart
  , within (m.ovStart + 100) 3899 m.ovEnd
  , within (m.ovEnd + 1) 3900 m.ulStart
  , within (m.ulStart + 100) 4000 m.ulEnd
  , within 10 1000 m.dmax
  , within 60 3000 m.vmax
  , within 0 500 m.margin
  , within 20 1000 m.stopDetect
  , within 50 5000 m.followLimit
  , within 5 500 m.inPosition
  , within 10 1000 m.settleTimeout
  , within 10 1000 m.energizeTime
  , within 100 2000 m.enableTimeout
  , m.holdDelay == 0 || within 100 60000 m.holdDelay ]

/-- The first bad field of a machine record (R20). -/
def badMachineField (m : MachineRecord) : Option Nat := firstFalse 0 (machineChecks m)

/-- The seven field checks of SET PROFILE in index order, the profile number first (R25). -/
def profileChecks (number : Nat) (p : Profile) : List Bool :=
  [ within 0 7 number
  , within 10 500 p.accel
  , within 100 5000 p.speed
  , within 1 63 p.travel
  , within 4 200 p.homing
  , within 1000 400000 p.search
  , within 0 50000 p.zeroOffset ]

/-- The first bad field of SET PROFILE (R25). -/
def badProfileField (number : Nat) (p : Profile) : Option Nat := firstFalse 0 (profileChecks number p)

/-- An entry of ASSIGN BARS is bad after the entries before it: bar, profile or repetition (R28). -/
def badEntry (before : List AssignEntry) (e : AssignEntry) : Bool :=
  !barExists e.bar || !(e.profile ≤ 7 || e.profile == 255) || before.any fun x => x.bar == e.bar

/-- The first bad entry of ASSIGN BARS (R28). -/
def badAssignEntry (es : List AssignEntry) : Option Nat := firstBad badEntry 0 [] es

/-- A bar is bad after the bars before it in a list that must rise strictly from 1 to 64. -/
def badRisingBar (before : List Nat) (b : Nat) : Bool :=
  !barExists b || (match before.getLast? with | some p => b ≤ p | none => false)

end Sys2Proof.Machine
end

