-- ==== Sys2Proof/Machine/Tracking.lean ====
section
/-! DEFINITION. The shaft tracker (01): quadrature transitions, the counts, the index arrivals with their corrections, the
crossings and underlap events with all that follows them in the lists, the player, the run controller and the channels, the
course speed, and the stop detection. -/

namespace Sys2Proof.Machine

/-! ### Quadrature (R1, R3) -/

/-- What a change of the level pair is (R3, R4). -/
inductive Transition where
  | none | forward | backward | error
  deriving DecidableEq, Repr

/-- The place of a level pair on the circle, from 0 (R3). -/
def circleStep (l : Levels) : Nat :=
  match l.a, l.b with
  | false, false => 0
  | true, false => 1
  | true, true => 2
  | false, true => 3

/-- The transition from one level pair to another (R3, R4). -/
def transition (old new : Levels) : Transition :=
  match (circleStep new + 4 - circleStep old) % 4 with
  | 0 => .none
  | 1 => .forward
  | 2 => .error
  | _ => .backward

/-- The angle after a count (R1). -/
def countedAngle (d : Direction) (angle : Nat) : Nat :=
  match d with
  | .forward => (angle + 1) % Config.counts
  | .backward => (angle + Config.counts - 1) % Config.counts

/-- The travel counter after a count: a count that would take its magnitude past 65,535 leaves it (R5). -/
def countedTravel (d : Direction) (travel : Int) : Int :=
  let t := match d with
    | .forward => travel + 1
    | .backward => travel - 1
  if 65535 < t.natAbs then travel else t

/-- The circular distance of two angles (R5). -/
def circularDistance (x y : Nat) : Nat := min (gauge x y) (Config.counts - gauge x y)

/-- The underlap side of an angle (R2). -/
def sideOf (m : MachineRecord) (angle : Nat) : Side := if m.ulStart ≤ angle then .upper else .lower

/-! ### Crossings and underlap events (R12, R13, R16) -/

/-- The measured speed of a course that lasted the given us (R16). -/
def measuredSpeed (time : Nat) : Nat := min 65535 (60000000 / max 1 (min 4294967295 time))

/-- The speed that a forward crossing measures; none is "no measurement" (R16). -/
def courseSpeed (t : Tracker) (now : Nat) : Option Nat :=
  match t.courseStart with
  | some start => if t.valid then some (measuredSpeed (now - start)) else none
  | none => none

/-- The course-time measurement closed and opened again, and the side LOWER (R12, R16). -/
def State.closeCourse (s : State) : State :=
  s.updTracker fun t =>
    { t with speed := courseSpeed t s.now, courseStart := some s.now, valid := true, side := some .lower }

/-- The overspeed check of a forward crossing: in RUN, a measured speed above the course peak plus the margin (09, R169). -/
def State.overspeed (s : State) : Bool :=
  s.run.state == .run &&
    match s.tracker.speed with
    | some v => s.run.peak + s.machine.margin < v
    | none => false

/-- The lists' part of a forward crossing (05, R76, R79). -/
def State.listsForward (s : State) : State := if s.listsFollow then s.crossForward else s

/-- The overspeed check and the lists' moves; which of the two reports is taken first is open (09, R166; log 8). -/
def State.crossingReports (s : State) : State :=
  if s.overspeed then
    let check := fun t : State => t.reportWith .overspeed 0 0 s.tracker.speed s.run.peak
    if Config.overspeedFirst s.draws then (check s.draw).listsForward else check s.draw.listsForward
  else s.listsForward

/-- A forward crossing: the measurement, the lists and the overspeed check, the feed, the course peak, the permit frame
(R12; 04 R60; 09 R155, R169). -/
def State.forwardCrossing (s : State) : State :=
  let s1 := s.closeCourse.crossingReports.feed
  (s1.updRun fun r => { r with peak := r.published }).permitDue

/-- A backward crossing (R12). -/
def State.backwardCrossing (s : State) : State :=
  let s1 := s.updTracker fun t => { t with valid := false, side := some .upper }
  if s1.listsFollow then s1.crossBackward else s1

/-- An underlap arrival (R13). -/
def State.underlapArrival (s : State) : State :=
  let s1 := s.updTracker fun t => { t with side := some .upper }
  if s1.listsFollow then s1.arriveUnderlap else s1

/-- An underlap departure backward (R13). -/
def State.underlapDeparture (s : State) : State :=
  let s1 := s.updTracker fun t => { t with side := some .lower }
  if s1.listsFollow then s1.departUnderlap else s1

/-- An event that the motion of the angle raises in LOCKED (01, section 1.5). -/
inductive ShaftEvent where
  | forwardCrossing | backwardCrossing | underlapArrival | underlapDeparture
  deriving DecidableEq, Repr

/-- The event of a motion of `n` counts from an angle, in a direction: a wrap is a crossing, and a passage of ul_start an
underlap event (R10, R12, R13). -/
def eventOf (m : MachineRecord) (d : Direction) (angle n : Nat) : Option ShaftEvent :=
  match d with
  | .forward =>
    if Config.counts ≤ angle + n then some .forwardCrossing
    else if angle < m.ulStart && m.ulStart ≤ angle + n then some .underlapArrival
    else none
  | .backward =>
    if angle < n then some .backwardCrossing
    else if m.ulStart ≤ angle && angle - n < m.ulStart then some .underlapDeparture
    else none

/-- An event of the shaft is raised, the angle already being the new one. -/
def State.raise (s : State) : Option ShaftEvent → State
  | some .forwardCrossing => s.forwardCrossing
  | some .backwardCrossing => s.backwardCrossing
  | some .underlapArrival => s.underlapArrival
  | some .underlapDeparture => s.underlapDeparture
  | none => s

/-! ### Counts (R3, R6 to R9, R15) -/

/-- The tracker takes a count: level pair, angle, direction, MOVING, the stop timer, and in CHECKING the travel counter
(R1, R3, R5, R15, R16). -/
def countTracker (t : Tracker) (d : Direction) (levels : Levels) (now : Nat) : Tracker :=
  { t with
    levels := levels
    angle := countedAngle d t.angle
    direction := d
    stopped := false
    countedAt := now
    travel := if t.sync = .checking then countedTravel d t.travel else t.travel
    valid := if d = .backward then false else t.valid }

/-- A count (R3). In NO_SIGNAL it begins the search for the index (R6); in LOCKED it raises its event, after which every
FOLLOWING channel takes the new angle and the lists' change together (R9, 07 R130). -/
def State.count (s : State) (d : Direction) (levels : Levels) : State :=
  let t := s.tracker
  let s1 := s.updTracker fun t => countTracker t d levels s.now
  let s2 := if t.sync = .noSignal
    then s1.changeSync .seekingIndex s1.tracker.angle 0 .firstCount t.angle else s1
  let s3 := if t.stopped then s2.shaftMoved else s2
  if t.sync = .locked then (s3.raise (eventOf s.machine d t.angle 1)).follow else s3

/-- An encoder error (R4). -/
def State.encoderError (s : State) : State :=
  let t := s.tracker
  let s1 := s.updTracker fun t => { t with levels := ⟨!t.levels.a, !t.levels.b⟩ }
  let s2 := if t.sync = .locked then s1.leaveLocked else s1
  let s3 := if t.sync = .noSignal then s2 else s2.changeSync .noSignal t.angle 0 .encoderError t.angle
  (s3.report .encoderError 0 0).endMotions .shaftMoved .shaftMoved (toIdle s.machine)
    (fun c => toIdle s.machine (unreferenced c))

/-- A sampled level pair: a count, an encoder error, or no transition (R3, R4). -/
def State.sample (s : State) (levels : Levels) : State :=
  match transition s.tracker.levels levels with
  | .none => s
  | .forward => s.count .forward levels
  | .backward => s.count .backward levels
  | .error => s.encoderError

/-! ### Index arrivals (R5 to R10) -/

/-- The angle is within tolerance of the index angle (R5). -/
def State.withinTolerance (s : State) : Bool :=
  circularDistance s.tracker.angle s.machine.indexAngle ≤ s.machine.tolerance

/-- An index arrival in CHECKING (R8). -/
def State.checkIndex (s : State) : State :=
  let m := s.machine
  let t := s.tracker
  if s.withinTolerance then
    if Config.counts - m.tolerance ≤ t.travel.natAbs then
      (s.updTracker fun t => { t with side := some (sideOf m m.indexAngle) }).changeSync .locked m.indexAngle t.travel
        .indexConfirmed t.angle
    else s
  else s.updTracker fun t => { t with angle := m.indexAngle, travel := 0 }

/-- A correction moves the angle the shorter way to the index angle and raises the event it passes (R10); then every FOLLOWING
channel takes the new angle (07, R130). Where that event halts a machine in RUN whose shaft is already STOPPED, the halt comes
first: the FOLLOWING channels go to IDLE (07, R136) with the setpoint and last target index from before the correction. The manual
does not order the two (the model's choice, log 31). -/
def State.correct (s : State) : State :=
  let m := s.machine
  let angle := s.tracker.angle
  let up := (m.indexAngle + Config.counts - angle) % Config.counts
  let down := (angle + Config.counts - m.indexAngle) % Config.counts
  let event := if up ≤ down then eventOf m .forward angle up else eventOf m .backward angle down
  ((s.updTracker fun t => { t with angle := m.indexAngle }).raise event).follow

/-- An index arrival in LOCKED (R9). -/
def State.lockedIndex (s : State) : State :=
  let m := s.machine
  let t := s.tracker
  if circularDistance t.angle m.indexAngle = 0 then s
  else if s.withinTolerance then s.correct
  else (s.leaveLocked.changeSync .checking m.indexAngle 0 .indexMismatch t.angle).report .syncLost 0 0

/-- An index arrival (R6 to R9). -/
def State.arriveIndex (s : State) : State :=
  match s.tracker.sync with
  | .noSignal => s
  | .seekingIndex => s.changeSync .checking s.machine.indexAngle 0 .indexFound s.tracker.angle
  | .checking => s.checkIndex
  | .locked => s.lockedIndex

/-! ### Stop detection (R15) -/

/-- The flag goes to STOPPED: the lists make their stopped check, and coasting channels stop (R15; 05 R82; 07 R136;
09 R163). -/
def State.goStopped (s : State) : State :=
  let s1 := (s.updTracker fun t => { t with stopped := true }).stoppedCheck
  if s1.run.state = .halt then s1.endFollowing else s1

/-- The instant at which the stop timer reaches the stop-detect time (R15). -/
def State.stopDue (s : State) : Nat := s.tracker.countedAt + 1000 * s.machine.stopDetect

/-- The stop timer reaches the stop-detect time (R15). -/
def State.detectStop (s : State) : State := if s.tracker.stopped then s else (s.advanceTo s.stopDue).goStopped

/-- The tracker acts on an accepted SET MACHINE, once the record is in force (R2, R11, R15; 02 R22). -/
def State.settingsChanged (s : State) (old : MachineRecord) : State :=
  let m := s.machine
  let s1 :=
    if old.indexAngle = m.indexAngle then s
    else
      match s.tracker.sync with
      | .locked => s.leaveLocked.changeSync .seekingIndex s.tracker.angle s.tracker.travel .settingsChanged s.tracker.angle
      | .checking => s.changeSync .seekingIndex s.tracker.angle s.tracker.travel .settingsChanged s.tracker.angle
      | .noSignal | .seekingIndex => s
  let s2 :=
    if old.ulStart ≠ m.ulStart && s1.tracker.sync = .locked then
      s1.updTracker fun t => { t with side := some (sideOf m t.angle) }
    else s1
  if old.stopDetect ≠ m.stopDetect && !s2.tracker.stopped && s2.stopDue ≤ s2.now then s2.goStopped else s2

end Sys2Proof.Machine
end

