-- ==== Sys2Proof/Machine/Settings.lean ====
section
/-! DEFINITION. The settings requests (02): SET MACHINE, SET PROFILE, ASSIGN BARS and READ SETTINGS. -/

namespace Sys2Proof.Machine

/-- The refusals by run state that the three writing requests share: WRONG_STATE outside STANDBY, BUSY while CHANGING (R19). -/
def State.settingsRefusal (s : State) : Option Result :=
  if s.run.state ≠ .standby then some .wrongState
  else if s.run.changing then some .busy
  else none

/-- SET MACHINE (R19 to R22). -/
def State.setMachine (s : State) (m : MachineRecord) : State × Answer :=
  match s.settingsRefusal with
  | some r => (s, refuse r)
  | none =>
    match badMachineField m with
    | some i => (s, badField i)
    | none => ({ s with machine := m }.settingsChanged s.machine, accept [])

/-- SET PROFILE (R19, R25). -/
def State.setProfile (s : State) (number : Nat) (p : Profile) : State × Answer :=
  match s.settingsRefusal with
  | some r => (s, refuse r)
  | none =>
    match badProfileField number p with
    | some i => (s, badField i)
    | none => ({ s with profiles := s.profiles.set number p }, accept [])

/-- The assignment an entry gives: 255 is ABSENT (10, section 10.7). -/
def assignValue (e : AssignEntry) : Option Nat := if e.profile = 255 then none else some e.profile

/-- The entries written into the assignment table together (R28). -/
def assignAll (table : List (Option Nat)) (es : List AssignEntry) : List (Option Nat) :=
  es.foldl (fun t e => t.set (e.bar - 1) (assignValue e)) table

/-- The channel of a bar that becomes ABSENT: unreferenced, its count, timer, view and last status dropped, its setpoint kept
(R29). -/
def toAbsent (c : Channel) : Channel :=
  { unreferenced (settled c) with
    state := .absent, missed := 0, view := .unknown, last := none, taken := false, exchanging := false, readySeen := false }

/-- A channel after its bar's assignment changed (R29). -/
def reassigned (before after : Option Nat) (c : Channel) : Channel :=
  match before, after with
  | none, some _ => toOff c
  | some _, none => toAbsent c
  | _, _ => c

/-- An open stream one of whose bars is now ABSENT is closed (R30). -/
def State.examineStream (s : State) : State :=
  if s.lists.streamOpen && s.lists.streamBars.any (fun b => !s.assigned b) then s.updLists Lists.closeStream else s

/-- All entries of an accepted ASSIGN BARS applied (R28 to R30). -/
def State.applyAssignment (s : State) (es : List AssignEntry) : State :=
  let s1 := { s with assign := assignAll s.assign es }
  (s1.mapChannels fun b => reassigned (s.profileNumber b) (s1.profileNumber b)).examineStream

/-- ASSIGN BARS (R19, R28). -/
def State.assignBars (s : State) (es : List AssignEntry) : State × Answer :=
  match s.settingsRefusal with
  | some r => (s, refuse r)
  | none =>
    if es.length < 1 || 64 < es.length then (s, refuse .badLength)
    else
      match badAssignEntry es with
      | some i => (s, badField i)
      | none => (s.applyAssignment es, accept [])

/-- The bytes of a machine record: two for each field, one for the index tolerance (10, section 10.7). -/
def machineBytes (m : MachineRecord) : List Byte :=
  beBytes 2 m.pitch ++ beBytes 2 m.indexAngle ++ beBytes 1 m.tolerance ++
    [m.ovStart, m.ovEnd, m.ulStart, m.ulEnd, m.dmax, m.vmax, m.margin, m.stopDetect, m.followLimit, m.inPosition,
      m.settleTimeout, m.energizeTime, m.enableTimeout, m.holdDelay].flatMap (beBytes 2)

/-- The bytes of a profile without its number (10, section 10.7). -/
def profileBytes (p : Profile) : List Byte :=
  beBytes 2 p.accel ++ beBytes 2 p.speed ++ beBytes 1 p.travel ++ beBytes 1 p.homing ++ beBytes 4 p.search ++
    beBytes 2 p.zeroOffset

/-- The payload of READ SETTINGS (R31; 10, section 10.7). -/
def State.settingsBytes (s : State) : List Byte :=
  machineBytes s.machine ++ s.profiles.flatMap profileBytes ++ s.assign.map fun a => byteOf (a.getD 255)

end Sys2Proof.Machine
end

