-- ==== Sys2Proof/Machine/Store.lean ====
section
/-! DEFINITION. The pattern store (03): defining, loading, checking, dropping, reporting and reading back blocks. -/

namespace Sys2Proof.Machine

/-- The code of a block state (10, section 10.7). -/
def blockStateCode : BlockState → Nat
  | .empty => 0x00
  | .loading => 0x01
  | .checking => 0x02
  | .ready => 0x03

/-! ### Defining and loading (R36 to R39) -/

/-- A bar is bad in a block's bar list after the bars before it (R36). -/
def badBlockBar (before : List Nat) (b : Nat) : Bool := !barExists b || before.contains b

/-- An entry just defined (R37). -/
def definedBlock (courses : Nat) (bars : List Nat) : Block :=
  { Block.vacant with state := .loading, courses := courses, bars := bars }

/-- DEFINE BLOCK accepted (R37). -/
def State.define (s : State) (id courses : Nat) (bars : List Nat) : State × Answer :=
  let n := courses * bars.length
  ((s.updBlock id fun _ => definedBlock courses bars).updStore fun st => { st with free := st.free - n },
    accept (beBytes 4 n ++ beBytes 4 (s.store.free - n)))

/-- DEFINE BLOCK (R36). -/
def State.defineBlock (s : State) (id courses : Nat) (bars : List Nat) : State × Answer :=
  if 127 < id then (s, badField 0)
  else if (s.block id).state ≠ .empty then (s, ⟨.blockExists, [byteOf (blockStateCode (s.block id).state)]⟩)
  else if courses < 1 || 4096 < courses then (s, badField 1)
  else if bars.length < 1 || 64 < bars.length then (s, badField 2)
  else
    match firstBad badBlockBar 3 [] bars with
    | some i => (s, badField i)
    | none =>
      if s.store.free < courses * bars.length then (s, ⟨.storeFull, beBytes 4 s.store.free⟩)
      else s.define id courses bars

/-- The block joins the check queue, and the engine starts on it at once when the queue was empty (R40). -/
def State.joinChecks (s : State) (id : Nat) : State :=
  (s.updBlock id fun b => { b with state := .checking }).updStore fun st =>
    { st with checkQueue := st.checkQueue ++ [id], checkFrom := if st.checkQueue = [] then s.now else st.checkFrom }

/-- BLOCK DATA accepted (R39). -/
def State.storeCells (s : State) (id : Nat) (cells : List Cell) : State × Answer :=
  let b := s.block id
  let next := b.cells.length + cells.length
  let s1 := s.updBlock id fun b => { b with cells := b.cells ++ cells }
  (if next = cellCount b then s1.joinChecks id else s1, accept (beBytes 4 next ++ beBytes 4 (cellCount b - next)))

/-- BLOCK DATA (R38). -/
def State.blockData (s : State) (id first : Nat) (cells : List Cell) : State × Answer :=
  let b := s.block id
  if 127 < id then (s, badField 0)
  else if cells.length = 0 || 96 < cells.length then (s, refuse .badLength)
  else if b.state = .empty then (s, refuse .noSuchBlock)
  else if b.state ≠ .loading then (s, ⟨.wrongState, [byteOf (blockStateCode b.state)]⟩)
  else if first ≠ b.cells.length then (s, ⟨.outOfOrder, beBytes 4 b.cells.length⟩)
  else if cellCount b < first + cells.length then (s, ⟨.badLength, beBytes 4 (cellCount b - b.cells.length)⟩)
  else
    match firstBad (fun _ c => !validCell c) 0 [] cells with
    | some i => (s, ⟨.badCell, [byteOf i]⟩)
    | none => s.storeCells id cells

/-! ### The check (R40, R42) -/

/-- The time of a check of `n` cells, in us (R40). -/
def checkTime (n : Nat) : Nat := divUp n 16

/-- The head has left the check queue, and the engine starts on the next block at once (R40). -/
def State.nextCheck (s : State) : State :=
  s.updStore fun st => { st with checkQueue := st.checkQueue.tail, checkFrom := s.now }

/-- The check of the head block completes (R42). -/
def State.completeCheck (s : State) : State :=
  match s.store.checkQueue with
  | [] => s
  | id :: _ =>
    let b := s.block id
    let d := digestOf b.cells
    let s1 := s.advanceTo (s.store.checkFrom + checkTime (cellCount b))
    ((s1.updBlock id fun b => { b with state := .ready, digest := some d }).nextCheck).notifyTagged
      (.blockReady d b.courses (cellCount b)) 0 id 0

/-! ### Dropping (R45) -/

/-- A dropped block leaves the check queue: from the head the engine moves on, from behind it the queue closes up (R45). -/
def State.leaveChecks (s : State) (id : Nat) : State :=
  if s.store.checkQueue.head? = some id then s.nextCheck
  else s.updStore fun st => { st with checkQueue := st.checkQueue.filter (· != id) }

/-- The readback cursor is cleared when it points into the block (R49). -/
def Store.clearCursor (st : Store) (id : Nat) : Store :=
  { st with readCursor := st.readCursor.filter fun c => c.block != id }

/-- DROP BLOCK accepted (R45). -/
def State.drop (s : State) (id : Nat) : State × Answer :=
  let n := cellCount (s.block id)
  let s1 := (s.leaveChecks id).updBlock id fun _ => Block.vacant
  (s1.updStore fun st => { st.clearCursor id with free := st.free + n }, accept (beBytes 4 (s.store.free + n)))

/-- DROP BLOCK (R45). -/
def State.dropBlock (s : State) (id : Nat) : State × Answer :=
  if 127 < id then (s, badField 0)
  else if (s.block id).state = .empty then (s, refuse .noSuchBlock)
  else if 0 < (s.block id).pins then (s, ⟨.blockInUse, [byteOf (s.block id).pins]⟩)
  else s.drop id

/-! ### Block information and readback (R46 to R48) -/

/-- The payload of BLOCK INFO (R46; 10, section 10.7). -/
def State.blockInfoBytes (s : State) (id : Nat) : List Byte :=
  let b := s.block id
  let place := if b.state = .checking then (s.store.checkQueue.idxOf? id).getD 0 else 0
  beBytes 1 (blockStateCode b.state) ++ beBytes 2 b.courses ++ beBytes 1 b.bars.length ++ b.bars.map byteOf ++
    beBytes 4 (cellCount b) ++ beBytes 4 b.cells.length ++ beBytes 1 place ++ [boolByte b.digest.isSome] ++
    beBytes 2 (b.digest.getD 0).toNat ++ beBytes 1 b.pins ++ beBytes 4 s.store.free

/-- BLOCK INFO (R46). -/
def State.blockInfo (s : State) (id : Nat) : State × Answer :=
  if 127 < id then (s, badField 0) else (s, accept (s.blockInfoBytes id))

/-- The cell index at which READ BLOCK START sets the cursor (R47). -/
def readStart (b : Block) (course : Nat) : Nat := if course < b.courses then course * b.bars.length else cellCount b

/-- READ BLOCK START (R47). -/
def State.readBlockStart (s : State) (id course : Nat) : State × Answer :=
  let b := s.block id
  if 127 < id then (s, badField 0)
  else if b.state = .empty then (s, refuse .noSuchBlock)
  else if b.state ≠ .ready then (s, refuse .blockNotReady)
  else
    (s.updStore fun st => { st with readCursor := some ⟨id, readStart b course⟩ },
      accept (beBytes 4 (readStart b course) ++ beBytes 4 (cellCount b) ++ beBytes 2 (b.digest.getD 0).toNat))

/-- The cells that a READ BLOCK NEXT returns from a cell index (R48). -/
def readCells (b : Block) (index : Nat) : List Cell := (b.cells.drop index).take 96

/-- READ BLOCK NEXT (R48). -/
def State.readBlockNext (s : State) : State × Answer :=
  match s.store.readCursor with
  | none => (s, refuse .noReadCursor)
  | some c =>
    let b := s.block c.block
    let cells := readCells b c.index
    (s.updStore fun st => { st with readCursor := some { c with index := c.index + cells.length } },
      accept (beBytes 4 c.index ++ [boolByte (cellCount b ≤ c.index)] ++ beBytes 1 cells.length ++ cellBytes cells))

end Sys2Proof.Machine
end

