-- ==== Sys2Proof/Machine/Stream.lean ====
section
/-! DEFINITION. Pattern streaming (05): OPEN STREAM, COURSES with its records, END STREAM and FLUSH COURSES. -/

namespace Sys2Proof.Machine

/-! ### OPEN STREAM (R86, R87) -/

/-- A bar is bad in a stream's bar list after the bars before it (R86). -/
def State.badStreamBar (s : State) (before : List Nat) (b : Nat) : Bool :=
  !barExists b || before.contains b || !s.assigned b

/-- The stream opened: source, bar list and expected tag set, end-seen clear (R87). -/
def Lists.openStream (l : Lists) (first : Tag) (bars : List Nat) : Lists :=
  { l with source := .stream, streamOpen := true, streamBars := bars, expected := some first, endSeen := false }

/-- OPEN STREAM (R86, R87). -/
def State.openStream (s : State) (first : Tag) (bars : List Nat) : State × Answer :=
  if s.run.state ≠ .standby && s.run.state ≠ .hold then (s, refuse .wrongState)
  else if s.run.changing then (s, refuse .busy)
  else if bars.length < 1 || 64 < bars.length then (s, badField 1)
  else
    match firstBad s.badStreamBar 2 [] bars with
    | some i => (s, badField i)
    | none => (s.clearLists.updLists fun l => l.openStream first bars, accept [])

/-! ### COURSES (R88 to R90) -/

/-- A record of COURSES as it is sent: tag, speed cap (0 for none) and one cell for each stream bar (10, section 10.7). -/
structure SentRecord where
  tag : Tag
  cap : Nat
  cells : List Cell
  deriving DecidableEq, Repr

/-- Cells read from bytes, front before back. -/
def cellsOf : List Byte → List Cell
  | a :: b :: rest => ⟨a.toNat, b.toNat⟩ :: cellsOf rest
  | _ => []

/-- One record read from its bytes (10, section 10.7). -/
def recordOf (bs : List Byte) : SentRecord :=
  ⟨BitVec.ofNat 32 (beNat (bs.take 4)), beNat ((bs.drop 4).take 2), cellsOf (bs.drop 6)⟩

/-- `n` records of `size` bytes each. -/
def recordsOf (size : Nat) : Nat → List Byte → List SentRecord
  | 0, _ => []
  | n + 1, bs => recordOf (bs.take size) :: recordsOf size n (bs.drop size)

/-- How the first failing record of a COURSES failed: the code, and the bar whose cell decided or 0 (R89, R90). -/
structure RecordFailure where
  result : Result
  bar : Nat
  deriving DecidableEq, Repr

/-- The failure of one cell: invalid, or out of its bar's travel (R89, cases 3 and 4). -/
def State.cellFailure (s : State) (b : Nat) (c : Cell) : Option RecordFailure :=
  if !validCell c then some ⟨.badCell, b⟩
  else if (overTravel (s.profile b).travel c).isSome then some ⟨.badPosition, b⟩
  else none

/-- The failure of a record, by the first case of R89 that applies. -/
def State.recordFailure (s : State) (r : SentRecord) : Option RecordFailure :=
  if s.lists.current.isSome && Config.queueRoom ≤ s.lists.queue.length then some ⟨.queueFull, 0⟩
  else if s.lists.expected ≠ some r.tag then some ⟨.tagGap, 0⟩
  else (s.lists.streamBars.zip r.cells).findSome? fun x => s.cellFailure x.1 x.2

/-- The lap of an assigned bar in a streamed record: its cell's pair, or a rest (R89). -/
def streamLap (bars : List Nat) (cells : List Cell) (b : Nat) : RawLap :=
  match (bars.idxOf? b).bind (cells[·]?) with
  | some c => if isRest c then ⟨b, none⟩ else ⟨b, some (c.front, c.back)⟩
  | none => ⟨b, none⟩

/-- The speed cap that a record's cap field gives: 0 is no cap, and a cap above 3,000 is stored as 3,000 (R71). -/
def capOf (field : Nat) : Option Nat := if field = 0 then none else some (min field 3000)

/-- A record that passes is appended, and the expected tag rises by 1 (R89). -/
def State.takeRecord (s : State) (r : SentRecord) : State :=
  (s.append r.tag .stream (capOf r.cap)
    (s.assignedBars.map (streamLap s.lists.streamBars r.cells))).updLists
    fun l => { l with expected := some (r.tag + 1) }

/-- What the taking of records has come to: how many were accepted, and the failure that ended it. -/
structure Taking where
  accepted : Nat
  failure : Option RecordFailure
  deriving DecidableEq, Repr

/-- The records taken in turn until one fails, with `n` accepted before (R89). -/
def takeRecords : Nat → List SentRecord → State → State × Taking
  | n, [], s => (s, ⟨n, none⟩)
  | n, r :: rs, s =>
    match s.recordFailure r with
    | some f => (s, ⟨n, some f⟩)
    | none => takeRecords (n + 1) rs (s.takeRecord r)

/-- The answer to a COURSES that was taken (R90; 10, section 10.7). -/
def coursesAnswer (expected : Option Tag) (t : Taking) : Answer :=
  match t.failure with
  | none => accept [byteOf t.accepted]
  | some f => ⟨f.result, [byteOf t.accepted, byteOf t.accepted] ++ tagBytes (expected.getD 0) ++ [byteOf f.bar]⟩

/-- COURSES (R88). -/
def State.courses (s : State) (count : Nat) (bytes : List Byte) : State × Answer :=
  let size := 6 + 2 * s.lists.streamBars.length
  if count < 1 || 4 < count then (s, refuse .badLength)
  else if s.run.state = .standby then (s, refuse .wrongState)
  else if !s.lists.streamOpen then (s, refuse .noStream)
  else if bytes.length ≠ count * size then (s, refuse .badLength)
  else
    let (s1, t) := takeRecords 0 (recordsOf size count bytes) s
    (s1, coursesAnswer s1.lists.expected t)

/-! ### END STREAM and FLUSH COURSES (R91 to R93) -/

/-- The stream closed at its end: the record that stands last carries the end mark, and the bar list and expected tag stay
(R91). -/
def Lists.endStream (l : Lists) : Lists :=
  { l.modifyLastRecord fun r => { r with endMark := true } with streamOpen := false, endSeen := true }

/-- END STREAM (R91). -/
def State.endStream (s : State) : State × Answer :=
  if s.run.state = .standby then (s, refuse .wrongState)
  else if !s.lists.streamOpen then (s, refuse .noStream)
  else
    match s.lists.last with
    | none => (s, refuse .wrongState)
    | some r => ((s.updLists Lists.endStream).stoppedCheck, accept (tagBytes r.tag))

/-- FLUSH COURSES (R92, R93; log 14). -/
def State.flushCourses (s : State) : State × Answer :=
  if s.run.changing then (s, refuse .busy)
  else if !s.tracker.stopped then (s, refuse .shaftMoving)
  else ((s.updLists Lists.flush).replan.stoppedCheck.feed, accept [byteOf s.lists.flushes.length])

end Sys2Proof.Machine
end

