-- ==== Sys2Proof/Machine/Link.lean ====
section
/-! DEFINITION. The control link port (10): the requests and their byte layouts, the receive buffer, the handling of one request
at a time by the block that owns it, the reply and its header, and the receiver that assembles frames from bytes. -/

namespace Sys2Proof.Machine

/-! ### Requests in bytes (R180; section 10.7) -/

/-- The kind of a request (10, section 10.7). -/
def requestKind : Request → Nat
  | .ident => 0x01
  | .status => 0x02
  | .fetchNotice => 0x03
  | .reset _ => 0x04
  | .setMachine _ => 0x10
  | .setProfile _ _ => 0x11
  | .assignBars _ => 0x12
  | .readSettings => 0x13
  | .defineBlock _ _ _ => 0x20
  | .blockData _ _ _ => 0x21
  | .dropBlock _ => 0x22
  | .blockInfo _ => 0x23
  | .readBlockStart _ _ => 0x24
  | .readBlockNext => 0x25
  | .writeSequence _ => 0x30
  | .switchSequence _ => 0x31
  | .setCursor _ => 0x32
  | .locate _ _ _ => 0x33
  | .openStream _ _ => 0x40
  | .courses _ _ => 0x41
  | .endStream => 0x42
  | .flushCourses => 0x43
  | .reference _ _ => 0x50
  | .jog _ _ => 0x51
  | .setRunState _ => 0x52
  | .getPosition => 0x53
  | .planReport => 0x54
  | .unknown kind => kind
  | .badLength kind => kind

/-- The number in `k` bytes of a payload from an offset. -/
def numAt (p : List Byte) (offset k : Nat) : Nat := beNat ((p.drop offset).take k)

/-- Bytes taken as numbers. -/
def numbers (p : List Byte) : List Nat := p.map BitVec.toNat

/-- The machine record of a SET MACHINE payload (10, section 10.7). -/
def recordAt (p : List Byte) : MachineRecord where
  pitch := numAt p 0 2
  indexAngle := numAt p 2 2
  tolerance := numAt p 4 1
  ovStart := numAt p 5 2
  ovEnd := numAt p 7 2
  ulStart := numAt p 9 2
  ulEnd := numAt p 11 2
  dmax := numAt p 13 2
  vmax := numAt p 15 2
  margin := numAt p 17 2
  stopDetect := numAt p 19 2
  followLimit := numAt p 21 2
  inPosition := numAt p 23 2
  settleTimeout := numAt p 25 2
  energizeTime := numAt p 27 2
  enableTimeout := numAt p 29 2
  holdDelay := numAt p 31 2

/-- The values of a SET PROFILE payload (10, section 10.7). -/
def profileAt (p : List Byte) : Profile where
  accel := numAt p 1 2
  speed := numAt p 3 2
  travel := numAt p 5 1
  homing := numAt p 6 1
  search := numAt p 7 4
  zeroOffset := numAt p 11 2

/-- The place of a SET CURSOR or LOCATE payload. -/
def placeAt (p : List Byte) : FeedCursor := ⟨numAt p 0 1, numAt p 1 1, numAt p 2 2⟩

/-- Pairs of byte values, as the lists of entries, steps and targets hold them. -/
def pairsOf (p : List Byte) : List Cell := cellsOf p

/-- A request read from a payload whose length must be the one given (R180). -/
def exactly (length : Nat) (kind : Nat) (p : List Byte) (r : Request) : Request :=
  if p.length = length then r else .badLength kind

/-- The request of a good frame: its kind and length judged at link level (R180). -/
def parseRequest (kind : Nat) (p : List Byte) : Request :=
  match kind with
  | 0x01 => exactly 0 kind p .ident
  | 0x02 => exactly 0 kind p .status
  | 0x03 => exactly 0 kind p .fetchNotice
  | 0x04 => exactly 1 kind p (.reset (numAt p 0 1))
  | 0x10 => exactly 33 kind p (.setMachine (recordAt p))
  | 0x11 => exactly 13 kind p (.setProfile (numAt p 0 1) (profileAt p))
  | 0x12 =>
    exactly (1 + 2 * numAt p 0 1) kind p (.assignBars ((pairsOf (p.drop 1)).map fun c => ⟨c.front, c.back⟩))
  | 0x13 => exactly 0 kind p .readSettings
  | 0x20 =>
    exactly (4 + numAt p 3 1) kind p (.defineBlock (numAt p 0 1) (numAt p 1 2) (numbers (p.drop 4)))
  | 0x21 => exactly (6 + 2 * numAt p 5 1) kind p (.blockData (numAt p 0 1) (numAt p 1 4) (cellsOf (p.drop 6)))
  | 0x22 => exactly 1 kind p (.dropBlock (numAt p 0 1))
  | 0x23 => exactly 1 kind p (.blockInfo (numAt p 0 1))
  | 0x24 => exactly 3 kind p (.readBlockStart (numAt p 0 1) (numAt p 1 2))
  | 0x25 => exactly 0 kind p .readBlockNext
  | 0x30 =>
    exactly (1 + 2 * numAt p 0 1) kind p (.writeSequence ((pairsOf (p.drop 1)).map fun c => ⟨c.front, c.back⟩))
  | 0x31 => exactly 1 kind p (.switchSequence (numAt p 0 1))
  | 0x32 => exactly 4 kind p (.setCursor (placeAt p))
  | 0x33 =>
    exactly (6 + 2 * numAt p 5 1) kind p
      (.locate (placeAt p) (numAt p 4 1) ((pairsOf (p.drop 6)).map fun c => ⟨c.front, c.back⟩))
  | 0x40 =>
    exactly (5 + numAt p 4 1) kind p (.openStream (BitVec.ofNat 32 (numAt p 0 4)) (numbers (p.drop 5)))
  | 0x41 => if p = [] then .badLength kind else .courses (numAt p 0 1) (p.drop 1)
  | 0x42 => exactly 0 kind p .endStream
  | 0x43 => exactly 0 kind p .flushCourses
  | 0x50 => exactly 9 kind p (.reference (BitVec.ofNat 64 (numAt p 0 8)) (numAt p 8 1))
  | 0x51 => exactly 2 kind p (.jog (numAt p 0 1) (numAt p 1 1))
  | 0x52 => exactly 1 kind p (.setRunState (numAt p 0 1))
  | 0x53 => exactly 0 kind p .getPosition
  | 0x54 => exactly 0 kind p .planReport
  | _ => .unknown kind

/-! ### Handling (R179, R180) -/

/-- RESET: answered now, to take effect when its reply has gone out (09, R173). -/
def State.resetRequest (s : State) (scope : Nat) : State × Answer :=
  match scope with
  | 0 => (s.updLink fun l => { l with resetOwed := some .motion }, accept [])
  | 1 => (s.updLink fun l => { l with resetOwed := some .full }, accept [])
  | _ => (s, badField 0)

/-- The block that owns a request decides it; the port itself refuses an unknown kind and a bad length (R179, R180). -/
def State.handle (s : State) : Request → State × Answer
  | .ident => (s, accept identBytes)
  | .status => (s, accept s.statusBytes)
  | .fetchNotice => s.fetchNotice
  | .reset scope => s.resetRequest scope
  | .setMachine m => s.setMachine m
  | .setProfile n p => s.setProfile n p
  | .assignBars es => s.assignBars es
  | .readSettings => (s, accept s.settingsBytes)
  | .defineBlock id courses bars => s.defineBlock id courses bars
  | .blockData id first cells => s.blockData id first cells
  | .dropBlock id => s.dropBlock id
  | .blockInfo id => s.blockInfo id
  | .readBlockStart id course => s.readBlockStart id course
  | .readBlockNext => s.readBlockNext
  | .writeSequence steps => s.writeSequence steps
  | .switchSequence mode => s.switchSequence mode
  | .setCursor place => s.setCursor place
  | .locate start stride targets => s.locate start stride targets
  | .openStream first bars => s.openStream first bars
  | .courses count records => s.courses count records
  | .endStream => s.endStream
  | .flushCourses => s.flushCourses
  | .reference bars ext => s.reference bars ext
  | .jog bar target => s.jog bar target
  | .setRunState target => s.setRunState target
  | .getPosition => (s, accept s.positionBytes)
  | .planReport => (s, accept s.planBytes)
  | .unknown _ => (s, refuse .unknownKind)
  | .badLength _ => (s, refuse .badLength)

/-! ### Replies (R181) -/

/-- The code of a result (10, section 10.3). -/
def resultCode : Result → Nat
  | .ok => 0x00
  | .unknownKind => 0x01
  | .badLength => 0x02
  | .badField => 0x03
  | .wrongState => 0x04
  | .busy => 0x05
  | .blockExists => 0x06
  | .noSuchBlock => 0x07
  | .storeFull => 0x08
  | .outOfOrder => 0x09
  | .badCell => 0x0A
  | .blockNotReady => 0x0B
  | .blockInUse => 0x0C
  | .noReadCursor => 0x0D
  | .queueFull => 0x0E
  | .tagGap => 0x0F
  | .noStream => 0x10
  | .badPosition => 0x11
  | .noticePending => 0x12
  | .notReferenced => 0x13
  | .shaftMoving => 0x14
  | .registeredBad => 0x15
  | .noSequence => 0x16

/-- The four bytes of the reply header (R181). -/
def State.replyHeader (s : State) (r : Result) : List Byte :=
  [byteOf (resultCode r), byteOf s.room, s.flagByte, 0]

/-- The kind of a reply: its request's kind with 0x80 added, in one byte (R181; log 27). -/
def replyKind (kind : Nat) : Nat := (kind + 0x80) % 256

/-- The reply to a request, built from the state after every change the request has made (R179, R181). -/
def State.replyTo (s : State) (w : Waiting) (a : Answer) : ReplyFrame :=
  ⟨w.tag, replyKind (requestKind w.request), s.replyHeader a.result ++ a.payload⟩

/-- The bytes that the CRC of a link frame covers: length, tag, kind and payload (10, section 10.2). -/
def frameBody (tag : Tag) (kind : Nat) (payload : List Byte) : List Byte :=
  beBytes 2 (payload.length + 5) ++ tagBytes tag ++ beBytes 1 kind ++ payload

/-- The bytes of a link frame (10, section 10.7). -/
def linkFrame (tag : Tag) (kind : Nat) (payload : List Byte) : List Byte :=
  let body := frameBody tag kind payload
  0xA5#8 :: body ++ crcBytes body

/-- The time of `n` bytes of 10 bits at a rate in Mbit/s, in us rounded up (R175; 11 R191; log 15). -/
def lineTime (rate n : Nat) : Nat := divUp (10 * n) rate

/-- The reply begins to go out (R179). -/
def State.sendReply (s : State) (r : ReplyFrame) : State :=
  s.updLink fun l =>
    { l with tx := some r, txUntil := s.now + lineTime l.rate (linkFrame r.tag r.kind r.payload).length }

/-- A request is judged, handled by its owner, and answered; steps of the run controller that it brings about come before
the reply (R179; log 25). -/
def State.answer (s : State) (w : Waiting) : State :=
  let (s1, a) := s.handle w.request
  s1.settleRun.sendReply (s1.settleRun.replyTo w a)

/-- The port takes the oldest request in the buffer when it handles none and no reset is owed (R179). -/
def State.serve (s : State) : State :=
  match s.link.tx, s.link.resetOwed, s.link.buffer with
  | none, none, w :: _ => s.answer w
  | _, _, _ => s

/-- A request frame offered to the receive buffer: it takes a free place, or is discarded with LINK_OVERRUN (R177). -/
def State.offerRequest (s : State) (tag : Tag) (r : Request) : State :=
  if s.link.buffer.length < Config.bufferRoom then
    (s.updLink fun l => { l with buffer := l.buffer ++ [⟨tag, r⟩] }).serve
  else s.notify (.linkOverrun tag (requestKind r)) 0 0

/-- The receiver in HUNT, with nothing assembled (R176). -/
def Receiver.hunting (rx : Receiver) : Receiver := { rx with phase := .hunt, bytes := [] }

/-- The receiver returns to HUNT. -/
def State.hunt (s : State) : State := s.updLink fun l => { l with rx := l.rx.hunting }

/-- A whole good request frame completes at the port: the receiver is in HUNT again, and the frame is offered to the buffer;
before the part takes frames it is dropped (R177, R178; log 4). -/
def State.request (s : State) (tag : Tag) (r : Request) : State :=
  if s.isRunning then s.hunt.offerRequest tag r else s

/-- The last byte of a reply has gone out: its request's place is free (R177, R179). -/
def State.freePlace (s : State) : State :=
  (s.advanceTo s.link.txUntil).updLink fun l => { l with tx := none, buffer := l.buffer.tail }

/-- REPLY SENT: the place is freed and the next request is taken, unless a reset is owed (R179). -/
def State.replySent (s : State) : State := if s.link.tx.isSome then s.freePlace.serve else s

/-! ### The receiver (R175 to R177) -/

/-- The length field of a frame being assembled (R176). -/
def frameLength (bytes : List Byte) : Nat := beNat (bytes.take 2)

/-- What an assembled frame comes to: a request with its tag, or nothing (R177). -/
def frameRequest (bytes : List Byte) : Option Waiting :=
  let body := bytes.take (bytes.length - 2)
  if bytes.drop (bytes.length - 2) = crcBytes body && 5 ≤ frameLength bytes then
    some ⟨BitVec.ofNat 32 (numAt body 2 4), parseRequest (numAt body 6 1) (body.drop 7)⟩
  else none

/-- A byte taken into the frame, at the instant of its end (R176). -/
def Receiver.take (rx : Receiver) (v : Byte) (phase : RxPhase) (now : Nat) : Receiver :=
  { phase := phase, bytes := rx.bytes ++ [v], lastAt := now }

/-- The frame is complete (R177). -/
def State.completeFrame (s : State) (bytes : List Byte) : State :=
  match frameRequest bytes with
  | some w => s.hunt.offerRequest w.tag w.request
  | none => s.hunt

/-- A data byte in the receiver's phase (R176). -/
def State.takeByte (s : State) (v : Byte) : State :=
  let rx := s.link.rx
  let bytes := rx.bytes ++ [v]
  let stay := fun p => s.updLink fun l => { l with rx := l.rx.take v p s.now }
  match rx.phase with
  | .hunt =>
    if v = 0xA5#8 then s.updLink fun l => { l with rx := ⟨.length, [], s.now⟩ } else s
  | .length =>
    if bytes.length < 2 then stay .length
    else if within 2 546 (frameLength bytes) then stay .body
    else s.hunt
  | .body => if bytes.length < 2 + frameLength bytes then stay .body else stay .check
  | .check => if bytes.length < 4 + frameLength bytes then stay .check else s.completeFrame bytes

/-- The gap before the byte that ends now was more than 1 ms, the byte itself lasting 10 bits (R176; log 15). -/
def State.gapTooLong (s : State) : Bool :=
  s.link.rx.phase != .hunt && decide (s.link.rate * Config.gapLimit + 10 < s.link.rate * (s.now - s.link.rx.lastAt))

/-- A byte ends on the line: data when its stop bit is high, a framing error when it is low (R175, R176). -/
def State.receiveByte (s : State) (v : Byte) (stopHigh : Bool) : State :=
  if !s.isRunning then s
  else
    let s1 := if s.gapTooLong then s.hunt else s
    if stopHigh then s1.takeByte v else s1.hunt

/-- The gap limit passes inside a frame (R176). -/
def State.gapTimeout (s : State) : State :=
  if s.link.rx.phase = .hunt then s else (s.advanceTo (s.link.rx.lastAt + Config.gapLimit + 1)).hunt

end Sys2Proof.Machine
end

