-- ==== Sys2Proof/Machine/Resets.lean ====
section
/-! DEFINITION. The resets (09, R172 to R174; 11, R191, R192): supply, the RESET input, release and start-up, the two scopes of
RESET; the permit line (09, R155); and what comes due before any other command is taken (log 5). -/

namespace Sys2Proof.Machine

/-! ### The permit line (09, R155; 10, R190) -/

/-- A permit frame begins, with the values as they stand (R155). -/
def State.sendPermit (s : State) : State :=
  s.updPermitLine fun _ =>
    { due := false
      frame := permitFrameBytes s.run.published s.stopActive s.run.state
      busyUntil := s.now + lineTime s.link.rate 6 }

/-- PERMIT FRAME: a frame that has fallen due begins when the line is free, once the part takes frames on the control link
(R155; log 19). -/
def State.permitFrame (s : State) : State :=
  if s.isRunning && s.permitLine.due then (s.advanceTo s.permitLine.busyUntil).sendPermit else s

/-- The first permit frame after a RESET request begins as the reset takes effect. A line that still carries a frame begins it
when that frame ends (R155; log 19). -/
def State.firstPermit (s : State) : State :=
  if s.permitLine.busyUntil ≤ s.now then s.sendPermit else s.permitDue

/-! ### Every block in its power-on or pin-reset state -/

/-- Every block as power-on, pin and full reset leave it. The model's own fields, the link rate and the encoder levels stay;
power, reset cause and permit line are given (R18, R32, R50, R70, R95, R113, R137, R138, R174, R178, R185; log 18). -/
def State.cleared (s : State) (power : Power) (cause : ResetCause) (line : PermitLine) (rate : Nat) : State :=
  { State.reset with
    pending := s.pending
    now := s.now
    draws := s.draws
    power := power
    tracker := .initial s.tracker.levels s.now
    run := .initial cause
    permitLine := line
    link := .initial rate }

/-- The link rate that the straps select, in Mbit/s (11, R191). -/
def strappedRate (rate1 rate0 : Bool) : Nat :=
  match rate1, rate0 with
  | false, false => 1
  | false, true => 2
  | true, false => 4
  | true, true => 1

/-- Supply is applied: the part is held, and the straps are read (11, R191, R192). -/
def State.supply (s : State) (rate1 rate0 : Bool) : State :=
  s.cleared (.held true) .powerOn .initial (strappedRate rate1 rate0)

/-- The RESET input becomes active: the part is held; a hold that supply began stays one (11, R192). -/
def State.pinHeld (s : State) : State :=
  match s.power with
  | .held bySupply => s.cleared (.held bySupply) s.run.resetCause .initial s.link.rate
  | _ => s.cleared (.held false) .resetPin .initial s.link.rate

/-- Release: the reset cause is set, the tracker samples the levels, and the start-up time begins (11, R192). -/
def State.release (s : State) (levels : Levels) : State :=
  match s.power with
  | .held bySupply =>
    { s with
      power := .startUp (s.now + Config.startUpTime)
      tracker := .initial levels s.now
      run := { s.run with resetCause := if bySupply then .powerOn else .resetPin } }
  | _ => s

/-- The start-up time ends: the receiver enters HUNT, frames are taken, and the first permit frame is sent (11, R192). -/
def State.endStartUp (s : State) : State :=
  match s.power with
  | .startUp t => ({ s.advanceTo t with power := .running }.hunt).sendPermit
  | _ => s

/-! ### RESET (09, R173) -/

/-- A channel after a motion reset (07, R137). -/
def State.motionChannel (s : State) (b : Nat) (c : Channel) : Channel :=
  if s.assigned b then toOff c else { toOff c with state := .absent }

/-- The blocks after a motion reset: what R70, R95, R113, R137, R138 and R174 reset; the rest is kept. -/
def State.motionCleared (s : State) : State :=
  { s.mapChannels s.motionChannel with
    player := { s.player with feedStopped := false, search := none }
    lists := s.lists.closeStream.cleared
    planner := .initial
    referencing := none
    run := .initial .resetMotion }

/-- The reply to the RESET has gone out when the reset takes effect: its request's place is free (10, R179). -/
def State.resetAnswered (s : State) : State :=
  (if s.link.tx.isSome then s.freePlace else s).updLink fun l => { l with resetOwed := none }

/-- The effect of RESET MOTION: the blocks, then the first permit frame; the request that waits in the buffer is handled next
(09, R155, R173; 10, R178). -/
def State.motionReset (s : State) : State := s.resetAnswered.motionCleared.firstPermit.serve

/-- The effect of RESET FULL: that of the RESET input, but for the cause, with no start-up time; then the first permit frame
(09, R155, R173; 11, R192). -/
def State.fullReset (s : State) : State :=
  let s1 := s.resetAnswered
  (s1.cleared .running .resetFull s1.permitLine s1.link.rate).firstPermit

/-- The reset that is owed takes effect. -/
def State.takeOwed (s : State) : State :=
  match s.link.resetOwed with
  | some .motion => s.motionReset
  | some .full => s.fullReset
  | none => s

/-- A reset that is owed takes effect once its reply has gone out (09, R173). -/
def State.dueReset (s : State) : State := if s.link.tx.isNone then s.takeOwed else s

/-! ### Before a command (log 5) -/

/-- What has come due by conditions alone is taken before any other command: the run controller's steps, then an owed
reset (log 5). -/
def State.ready (s : State) : State := s.settleRun.dueReset

/-- An event of a part that is not held in reset, `dt` us after the step before. While the part is held nothing happens but
the passing of time (11, R192; log 1, 5). -/
def State.after (s : State) (dt : Nat) (f : State → State) : State :=
  if s.isHeld then s.elapse dt else f (s.ready.elapse dt)

/-- An event that carries no time of its own. -/
def State.event (s : State) (f : State → State) : State := s.after 0 f

/-- A step of the run controller taken by its own row, when it is the one that is due. -/
def State.ownStep (s : State) (d : DueStep) : State :=
  if !s.isHeld && s.dueStep == some d then s.perform d else s

/-- A reset of a scope taken by its own row, when it is the one that is owed. -/
def State.ownReset (s : State) (scope : Scope) : State :=
  if !s.isHeld && s.link.resetOwed == some scope then s.settleRun.takeOwed else s

end Sys2Proof.Machine
end

