-- ==== Sys2Proof/Machine/RequestCommands.lean ====
section
/-! DEFINITION. The meanings of the request commands: a whole good request frame completes at the port, takes a place in the
receive buffer, and is handled by its owner and answered when the port is free (10, R177, R179; log 4). -/

namespace Sys2Proof.Machine

/-- The outcome of an event that carries no time of its own: the part goes on. -/
def State.goesOn (s : State) (f : State → State) : Host.Outcome State Fault Refusal := .next (s.event f)

/-- IDENT (10, R186). -/
def execIdent (tag : Tag) (s : State) : Host.Outcome State Fault Refusal :=
  s.goesOn fun s => s.request tag .ident

/-- STATUS (10, R187). -/
def execStatus (tag : Tag) (s : State) : Host.Outcome State Fault Refusal :=
  s.goesOn fun s => s.request tag .status

/-- FETCH_NOTICE (10, R184). -/
def execFetchNotice (tag : Tag) (s : State) : Host.Outcome State Fault Refusal :=
  s.goesOn fun s => s.request tag .fetchNotice

/-- RESET (09, R173). -/
def execReset (tag : Tag) (scope : Nat) (s : State) : Host.Outcome State Fault Refusal :=
  s.goesOn fun s => s.request tag (.reset scope)

/-- SET_MACHINE (02, R20). -/
def execSetMachine (tag : Tag) (record : MachineRecord) (s : State) : Host.Outcome State Fault Refusal :=
  s.goesOn fun s => s.request tag (.setMachine record)

/-- SET_PROFILE (02, R25). -/
def execSetProfile (tag : Tag) (number : Nat) (values : Profile) (s : State) : Host.Outcome State Fault Refusal :=
  s.goesOn fun s => s.request tag (.setProfile number values)

/-- ASSIGN_BARS (02, R28). -/
def execAssignBars (tag : Tag) (entries : List AssignEntry) (s : State) : Host.Outcome State Fault Refusal :=
  s.goesOn fun s => s.request tag (.assignBars entries)

/-- READ_SETTINGS (02, R31). -/
def execReadSettings (tag : Tag) (s : State) : Host.Outcome State Fault Refusal :=
  s.goesOn fun s => s.request tag .readSettings

/-- DEFINE_BLOCK (03, R36). -/
def execDefineBlock (tag : Tag) (id courses : Nat) (bars : List Nat) (s : State) : Host.Outcome State Fault Refusal :=
  s.goesOn fun s => s.request tag (.defineBlock id courses bars)

/-- BLOCK_DATA (03, R38). -/
def execBlockData (tag : Tag) (id first : Nat) (cells : List Cell) (s : State) : Host.Outcome State Fault Refusal :=
  s.goesOn fun s => s.request tag (.blockData id first cells)

/-- DROP_BLOCK (03, R45). -/
def execDropBlock (tag : Tag) (id : Nat) (s : State) : Host.Outcome State Fault Refusal :=
  s.goesOn fun s => s.request tag (.dropBlock id)

/-- BLOCK_INFO (03, R46). -/
def execBlockInfo (tag : Tag) (id : Nat) (s : State) : Host.Outcome State Fault Refusal :=
  s.goesOn fun s => s.request tag (.blockInfo id)

/-- READ_BLOCK_START (03, R47). -/
def execReadBlockStart (tag : Tag) (id course : Nat) (s : State) : Host.Outcome State Fault Refusal :=
  s.goesOn fun s => s.request tag (.readBlockStart id course)

/-- READ_BLOCK_NEXT (03, R48). -/
def execReadBlockNext (tag : Tag) (s : State) : Host.Outcome State Fault Refusal :=
  s.goesOn fun s => s.request tag .readBlockNext

/-- WRITE_SEQUENCE (04, R52). -/
def execWriteSequence (tag : Tag) (steps : List SeqStep) (s : State) : Host.Outcome State Fault Refusal :=
  s.goesOn fun s => s.request tag (.writeSequence steps)

/-- SWITCH_SEQUENCE_NOW (04, R54, R55). -/
def execSwitchSequenceNow (tag : Tag) (s : State) : Host.Outcome State Fault Refusal :=
  s.goesOn fun s => s.request tag (.switchSequence 0)

/-- SWITCH_SEQUENCE_TIMED (04, R54). -/
def execSwitchSequenceTimed (tag : Tag) (mode : Nat) (s : State) : Host.Outcome State Fault Refusal :=
  s.goesOn fun s => s.request tag (.switchSequence mode)

/-- SET_CURSOR (04, R64). -/
def execSetCursor (tag : Tag) (place : FeedCursor) (s : State) : Host.Outcome State Fault Refusal :=
  s.goesOn fun s => s.request tag (.setCursor place)

/-- LOCATE (04, R66). -/
def execLocate (tag : Tag) (start : FeedCursor) (stride : Nat) (targets : List LocateTarget) (s : State) : Host.Outcome State Fault Refusal :=
  s.goesOn fun s => s.request tag (.locate start stride targets)

/-- OPEN_STREAM (05, R86). -/
def execOpenStream (tag : Tag) (first : Tag) (bars : List Nat) (s : State) : Host.Outcome State Fault Refusal :=
  s.goesOn fun s => s.request tag (.openStream first bars)

/-- COURSES (05, R88). -/
def execCourses (tag : Tag) (count : Nat) (records : List Byte) (s : State) : Host.Outcome State Fault Refusal :=
  s.goesOn fun s => s.request tag (.courses count records)

/-- END_STREAM (05, R91). -/
def execEndStream (tag : Tag) (s : State) : Host.Outcome State Fault Refusal :=
  s.goesOn fun s => s.request tag .endStream

/-- FLUSH_COURSES (05, R92). -/
def execFlushCourses (tag : Tag) (s : State) : Host.Outcome State Fault Refusal :=
  s.goesOn fun s => s.request tag .flushCourses

/-- REFERENCE (08, R139). -/
def execReference (tag : Tag) (bars : BarSet) (extension : Nat) (s : State) : Host.Outcome State Fault Refusal :=
  s.goesOn fun s => s.request tag (.reference bars extension)

/-- JOG (08, R148). -/
def execJog (tag : Tag) (bar target : Nat) (s : State) : Host.Outcome State Fault Refusal :=
  s.goesOn fun s => s.request tag (.jog bar target)

/-- SET_RUN_STATE (09, R156). -/
def execSetRunState (tag : Tag) (target : Nat) (s : State) : Host.Outcome State Fault Refusal :=
  s.goesOn fun s => s.request tag (.setRunState target)

/-- GET_POSITION (10, R188). -/
def execGetPosition (tag : Tag) (s : State) : Host.Outcome State Fault Refusal :=
  s.goesOn fun s => s.request tag .getPosition

/-- PLAN_REPORT (06, R111). -/
def execPlanReport (tag : Tag) (s : State) : Host.Outcome State Fault Refusal :=
  s.goesOn fun s => s.request tag .planReport

/-- UNKNOWN_KIND (10, R180). -/
def execUnknownKind (tag : Tag) (kind : Nat) (s : State) : Host.Outcome State Fault Refusal :=
  s.goesOn fun s => s.request tag (.unknown kind)

end Sys2Proof.Machine
end

