-- ==== Sys2Proof/Machine/DriveCommands.lean ====
section
/-! DEFINITION. The meanings of the drive commands. Each of the rows that name what an exchange brings about is that exchange,
when the one that comes next does bring it about (log 6, 7). -/

namespace Sys2Proof.Machine

/-- An event of one bar's channel; a bar outside 1 to 64 has none (07, R114; log 20). -/
def State.onBar (s : State) (bar : Nat) (f : State → State) : Host.Outcome State Fault Refusal :=
  if barExists bar then s.goesOn f else .fault (.noSuchBar bar)

/-- The exchange of a bar, when it is the one that brings something about (log 6, 7). -/
def State.exchangeWhen (s : State) (bar : Nat) (holds : State → Bool) : Host.Outcome State Fault Refusal :=
  s.onBar bar fun s => if holds s then s.exchangeBar bar else s

/-- EXCHANGE of one bar (07, R118). -/
def execExchange (bar : Nat) (s : State) : Host.Outcome State Fault Refusal :=
  s.onBar bar fun s => s.exchangeBar bar

/-- STATUS_FRAME on a drive line (07, R119). -/
def execStatusFrame (line : DriveLine) (bytes : List Byte) (s : State) : Host.Outcome State Fault Refusal :=
  s.goesOn fun s => s.receiveStatus line bytes

/-- DRIVE_LOST (07, R120). -/
def execDriveLost (bar : Nat) (s : State) : Host.Outcome State Fault Refusal :=
  s.exchangeWhen bar fun s => reachesLost (s.channel bar)

/-- ENABLE_TIMEOUT (07, R126). -/
def execEnableTimeout (bar : Nat) (s : State) : Host.Outcome State Fault Refusal :=
  s.exchangeWhen bar fun s => s.comingExpiry bar == .enable

/-- ENERGIZE_TIME_END (07, R127). -/
def execEnergizeTimeEnd (bar : Nat) (s : State) : Host.Outcome State Fault Refusal :=
  s.exchangeWhen bar fun s => s.comingExpiry bar == .energize

/-- HOLD_DELAY_EXPIRY (07, R128). -/
def execHoldDelayExpiry (bar : Nat) (s : State) : Host.Outcome State Fault Refusal :=
  s.exchangeWhen bar fun s => s.comingExpiry bar == .hold

/-- JOG_TARGET_REACHED (08, R149). -/
def execJogTargetReached (bar : Nat) (s : State) : Host.Outcome State Fault Refusal :=
  s.exchangeWhen bar fun s => s.comingArrival bar == .jog

/-- SETTLE_TIMEOUT (08, R150). -/
def execSettleTimeout (bar : Nat) (s : State) : Host.Outcome State Fault Refusal :=
  s.exchangeWhen bar fun s => s.comingExpiry bar == .settle

/-- ZERO_MOVE_COMPLETE (08, R143). -/
def execZeroMoveComplete (bar : Nat) (s : State) : Host.Outcome State Fault Refusal :=
  s.exchangeWhen bar fun s => s.comingArrival bar == .zero

/-- ALLOWANCE_TIMEOUT (08, R145). -/
def execAllowanceTimeout (s : State) : Host.Outcome State Fault Refusal :=
  s.goesOn State.expireAllowance

/-- ALIGNED (07, R134). -/
def execAligned (bar : Nat) (s : State) : Host.Outcome State Fault Refusal :=
  s.exchangeWhen bar fun s => s.comingArrival bar == .alignment

end Sys2Proof.Machine
end

