-- ==== Sys2Proof/Machine/LinkCommands.lean ====
section
/-! DEFINITION. The meanings of the commands of the line itself and of the part's own timed work on requests: the bytes of the
control link, the replies, the block check and the locate. -/

namespace Sys2Proof.Machine

/-- BYTE_RECEIVED: a byte ends on the control link (10, R175, R176). -/
def execByteReceived (value : Byte) (stopHigh : Bool) (dt : Nat) (s : State) : Host.Outcome State Fault Refusal :=
  .next (s.after dt fun s => s.receiveByte value stopHigh)

/-- FRAME_GAP_TIMEOUT (10, R176). -/
def execFrameGapTimeout (s : State) : Host.Outcome State Fault Refusal :=
  s.goesOn State.gapTimeout

/-- REPLY_SENT (10, R179). -/
def execReplySent (s : State) : Host.Outcome State Fault Refusal :=
  s.goesOn State.replySent

/-- CHECK_COMPLETE (03, R42). -/
def execCheckComplete (s : State) : Host.Outcome State Fault Refusal :=
  s.goesOn State.completeCheck

/-- LOCATE_DONE (04, R69). -/
def execLocateDone (s : State) : Host.Outcome State Fault Refusal :=
  s.goesOn State.endLocate

end Sys2Proof.Machine
end

