-- ==== Sys2Proof/Machine/PowerCommands.lean ====
section
/-! DEFINITION. The meanings of the commands of supply, the RESET input and the start-up (11, R191, R192). -/

namespace Sys2Proof.Machine

/-- POWER_ON: supply is applied (11, R192). -/
def execPowerOn (rate1 rate0 : Bool) (s : State) : Host.Outcome State Fault Refusal :=
  .next (s.supply rate1 rate0)

/-- PIN_RESET: the RESET input becomes active (11, R192). -/
def execPinReset (s : State) : Host.Outcome State Fault Refusal :=
  .next s.pinHeld

/-- RESET_RELEASE (11, R192). -/
def execResetRelease (levels : Levels) (s : State) : Host.Outcome State Fault Refusal :=
  .next (s.release levels)

/-- START_UP_END (11, R192). -/
def execStartUpEnd (s : State) : Host.Outcome State Fault Refusal :=
  .next s.endStartUp

end Sys2Proof.Machine
end

