-- ==== Sys2Proof/Machine/RunCommands.lean ====
section
/-! DEFINITION. The meanings of the run controller's own steps, of the permit line and of the two scopes of RESET. Each is taken
when it is the one that is due (log 5, 7). -/

namespace Sys2Proof.Machine

/-- MOTION_RESET takes effect (09, R173). -/
def execMotionReset (s : State) : Host.Outcome State Fault Refusal :=
  .next (s.ownReset .motion)

/-- FULL_RESET takes effect (09, R173). -/
def execFullReset (s : State) : Host.Outcome State Fault Refusal :=
  .next (s.ownReset .full)

/-- ENTER_HOLD_FROM_STANDBY (09, R159). -/
def execEnterHoldFromStandby (s : State) : Host.Outcome State Fault Refusal :=
  .next (s.ownStep .enterHoldFromStandby)

/-- ALIGNMENT_START (09, R161). -/
def execAlignmentStart (s : State) : Host.Outcome State Fault Refusal :=
  .next (s.ownStep .alignmentStart)

/-- ENTER_RUN (09, R162). -/
def execEnterRun (s : State) : Host.Outcome State Fault Refusal :=
  .next (s.ownStep .enterRun)

/-- ENTER_HOLD (09, R164). -/
def execEnterHold (s : State) : Host.Outcome State Fault Refusal :=
  .next (s.ownStep .enterHold)

/-- ENTER_STANDBY (09, R165). -/
def execEnterStandby (s : State) : Host.Outcome State Fault Refusal :=
  .next (s.ownStep .enterStandby)

/-- PERMIT_FRAME (09, R155). -/
def execPermitFrame (s : State) : Host.Outcome State Fault Refusal :=
  s.goesOn State.permitFrame

end Sys2Proof.Machine
end

