-- ==== Sys2Proof/Machine/ShaftCommands.lean ====
section
/-! DEFINITION. The meanings of the shaft's commands: encoder levels, index pulses and the stop timer. -/

namespace Sys2Proof.Machine

/-- ENCODER_COUNT: the level pair is sampled; a valid transition is a count (01, R3). -/
def execEncoderCount (levels : Levels) (dt : Nat) (s : State) : Host.Outcome State Fault Refusal :=
  .next (s.after dt fun s => s.sample levels)

/-- ENCODER_ERROR: A and B change together (01, R4). -/
def execEncoderError (dt : Nat) (s : State) : Host.Outcome State Fault Refusal :=
  .next (s.after dt State.encoderError)

/-- INDEX_ARRIVAL (01, R8). -/
def execIndexArrival (dt : Nat) (s : State) : Host.Outcome State Fault Refusal :=
  .next (s.after dt State.arriveIndex)

/-- STOP_DETECT (01, R15). -/
def execStopDetect (s : State) : Host.Outcome State Fault Refusal :=
  s.goesOn State.detectStop

end Sys2Proof.Machine
end

