-- ==== Sys2Proof/Machine/Dispatch.lean ====
section
/-! DEFINITION. The one dispatch: each command's meaning. -/

namespace Sys2Proof.Machine

def exec (i : Instr) (s : State) : Host.Outcome State Fault Refusal :=
  match i with
  | .ident tag => Sys2Proof.Machine.execIdent tag s
  | .status tag => Sys2Proof.Machine.execStatus tag s
  | .fetchNotice tag => Sys2Proof.Machine.execFetchNotice tag s
  | .reset tag scope => Sys2Proof.Machine.execReset tag scope s
  | .motionReset => Sys2Proof.Machine.execMotionReset s
  | .fullReset => Sys2Proof.Machine.execFullReset s
  | .setMachine tag record => Sys2Proof.Machine.execSetMachine tag record s
  | .setProfile tag number values => Sys2Proof.Machine.execSetProfile tag number values s
  | .assignBars tag entries => Sys2Proof.Machine.execAssignBars tag entries s
  | .readSettings tag => Sys2Proof.Machine.execReadSettings tag s
  | .defineBlock tag id courses bars => Sys2Proof.Machine.execDefineBlock tag id courses bars s
  | .blockData tag id first cells => Sys2Proof.Machine.execBlockData tag id first cells s
  | .dropBlock tag id => Sys2Proof.Machine.execDropBlock tag id s
  | .blockInfo tag id => Sys2Proof.Machine.execBlockInfo tag id s
  | .readBlockStart tag id course => Sys2Proof.Machine.execReadBlockStart tag id course s
  | .readBlockNext tag => Sys2Proof.Machine.execReadBlockNext tag s
  | .checkComplete => Sys2Proof.Machine.execCheckComplete s
  | .writeSequence tag steps => Sys2Proof.Machine.execWriteSequence tag steps s
  | .switchSequenceNow tag => Sys2Proof.Machine.execSwitchSequenceNow tag s
  | .switchSequenceTimed tag mode => Sys2Proof.Machine.execSwitchSequenceTimed tag mode s
  | .setCursor tag place => Sys2Proof.Machine.execSetCursor tag place s
  | .locate tag start stride targets => Sys2Proof.Machine.execLocate tag start stride targets s
  | .locateDone => Sys2Proof.Machine.execLocateDone s
  | .openStream tag first bars => Sys2Proof.Machine.execOpenStream tag first bars s
  | .courses tag count records => Sys2Proof.Machine.execCourses tag count records s
  | .endStream tag => Sys2Proof.Machine.execEndStream tag s
  | .flushCourses tag => Sys2Proof.Machine.execFlushCourses tag s
  | .reference tag bars extension => Sys2Proof.Machine.execReference tag bars extension s
  | .jog tag bar target => Sys2Proof.Machine.execJog tag bar target s
  | .setRunState tag target => Sys2Proof.Machine.execSetRunState tag target s
  | .getPosition tag => Sys2Proof.Machine.execGetPosition tag s
  | .planReport tag => Sys2Proof.Machine.execPlanReport tag s
  | .unknownKind tag kind => Sys2Proof.Machine.execUnknownKind tag kind s
  | .byteReceived value stopHigh dt => Sys2Proof.Machine.execByteReceived value stopHigh dt s
  | .frameGapTimeout => Sys2Proof.Machine.execFrameGapTimeout s
  | .replySent => Sys2Proof.Machine.execReplySent s
  | .encoderCount levels dt => Sys2Proof.Machine.execEncoderCount levels dt s
  | .encoderError dt => Sys2Proof.Machine.execEncoderError dt s
  | .indexArrival dt => Sys2Proof.Machine.execIndexArrival dt s
  | .stopDetect => Sys2Proof.Machine.execStopDetect s
  | .exchange bar => Sys2Proof.Machine.execExchange bar s
  | .statusFrame line bytes => Sys2Proof.Machine.execStatusFrame line bytes s
  | .driveLost bar => Sys2Proof.Machine.execDriveLost bar s
  | .enableTimeout bar => Sys2Proof.Machine.execEnableTimeout bar s
  | .energizeTimeEnd bar => Sys2Proof.Machine.execEnergizeTimeEnd bar s
  | .holdDelayExpiry bar => Sys2Proof.Machine.execHoldDelayExpiry bar s
  | .jogTargetReached bar => Sys2Proof.Machine.execJogTargetReached bar s
  | .settleTimeout bar => Sys2Proof.Machine.execSettleTimeout bar s
  | .zeroMoveComplete bar => Sys2Proof.Machine.execZeroMoveComplete bar s
  | .allowanceTimeout => Sys2Proof.Machine.execAllowanceTimeout s
  | .aligned bar => Sys2Proof.Machine.execAligned bar s
  | .enterHoldFromStandby => Sys2Proof.Machine.execEnterHoldFromStandby s
  | .alignmentStart => Sys2Proof.Machine.execAlignmentStart s
  | .enterRun => Sys2Proof.Machine.execEnterRun s
  | .enterHold => Sys2Proof.Machine.execEnterHold s
  | .enterStandby => Sys2Proof.Machine.execEnterStandby s
  | .permitFrame => Sys2Proof.Machine.execPermitFrame s
  | .powerOn rate1 rate0 => Sys2Proof.Machine.execPowerOn rate1 rate0 s
  | .pinReset => Sys2Proof.Machine.execPinReset s
  | .resetRelease levels => Sys2Proof.Machine.execResetRelease levels s
  | .startUpEnd => Sys2Proof.Machine.execStartUpEnd s

end Sys2Proof.Machine
end

