-- ==== Sys2Proof/Safety.lean ====
section
/-! DEFINITION. What a sound state of the part is, in the terms the statements use: what the manual says always holds of the
tracker, the notice queue, the store, the lists and the run controller. -/

namespace Sys2Proof.Machine

/-- The tables have their fixed sizes: 64 channels and assignments, 8 profiles, 128 blocks (00, Capacities). -/
abbrev State.Sized (s : State) : Prop :=
  s.channels.length = 64 ∧ s.assign.length = 64 ∧ s.profiles.length = 8 ∧ s.store.blocks.length = 128

/-- The angle and the index angle are shaft angles, 0 to 3,999 (01, R1; 02, section 2.2). -/
abbrev State.AngleSound (s : State) : Prop := s.tracker.angle < Config.counts ∧ s.machine.indexAngle < Config.counts

/-- The bars that the notice queue's DRIVE_CHANGE records are about. -/
def driveChangeBars (ns : List Notice) : List Nat := ns.filterMap Notice.driveChangeBar

/-- The notice queue holds at most 32 records, and at most one DRIVE_CHANGE for a bar (10, R182). -/
abbrev State.NoticesSound (s : State) : Prop :=
  s.link.notices.length ≤ Config.noticeRoom ∧ (driveChangeBars s.link.notices).Nodup

/-- The receive buffer holds at most its two places (10, R177). -/
abbrev State.BufferSound (s : State) : Prop := s.link.buffer.length ≤ Config.bufferRoom

/-- The cell count that an entry takes from the pool: none when EMPTY (03, R33, R35). -/
def heldCells (b : Block) : Nat := if b.state = .empty then 0 else cellCount b

/-- The free cells and the cells of all blocks that are not EMPTY are the whole store, and the check queue names each
CHECKING block at most once and no other (03, R35, R40). -/
abbrev State.StoreSound (s : State) : Prop :=
  s.store.free + (s.store.blocks.map heldCells).sum = Config.storeCells ∧
  s.store.checkQueue.Nodup ∧ ∀ id ∈ s.store.checkQueue, (s.block id).state = .checking

/-- The lists keep within their places: nothing without a current record, 32 in the queue, 16 in history and replay stack
together (05, R73). -/
abbrev State.ListsSound (s : State) : Prop :=
  s.lists.queue.length ≤ Config.queueRoom ∧ s.lists.history.length + s.lists.replay.length ≤ Config.historyRoom ∧
  (s.lists.current = none → s.lists.history = [] ∧ s.lists.replay = [] ∧ s.lists.queue = [])

/-- WAITING and CHANGING are never set together, the requested state has a value exactly while one of them is set, and
nothing waits in STANDBY (09, R152, R160, R163). -/
abbrev State.RequestSound (s : State) : Prop :=
  ¬(s.run.waiting = true ∧ s.run.changing = true) ∧
  (s.run.requested.isSome = true ↔ s.run.waiting = true ∨ s.run.changing = true) ∧
  (s.run.waiting = true → s.run.state ≠ .standby)

/-- The published permit is 0 whenever the run state is not RUN or a leave request is waiting (09, R154). -/
abbrev State.PermitSound (s : State) : Prop :=
  s.run.state ≠ .run ∨ s.run.waiting = true → s.run.published = 0

/-- The main drive is let run only in RUN: elsewhere STOP is active and the permit is 0 (09, R153, R154). -/
abbrev State.Standing (s : State) : Prop := s.run.state ≠ .run → s.stopActive = true ∧ s.run.published = 0

/-! ### Conditions under which a command has its own effect at once -/

/-- The part runs, owes no reset, and no step of the run controller is due (11, R192; log 5). -/
def State.Quiet (s : State) : Prop := s.power = .running ∧ s.link.resetOwed = none ∧ s.dueStep = none

/-- The port handles no request and none waits (10, R179). -/
def State.PortFree (s : State) : Prop := s.link.tx = none ∧ s.link.buffer = []

/-- The part as it takes a request that finds the port free: the receiver is in HUNT, and the request holds the first place
of the buffer (10, R176, R177). -/
def State.taken (s : State) (tag : Tag) (r : Request) : State :=
  s.updLink fun l => { l with rx := l.rx.hunting, buffer := [⟨tag, r⟩] }

/-- The part as it answers that request: the reply, its header built from this state, goes out (10, R179, R181). -/
def State.answered (t : State) (tag : Tag) (r : Request) (result : Result) (payload : List Byte) : State :=
  t.sendReply ⟨tag, replyKind (requestKind r), t.replyHeader result ++ payload⟩

/-- The part as a request leaves it that changed nothing but the link: taken, and answered. -/
def State.replies (s : State) (tag : Tag) (r : Request) (result : Result) (payload : List Byte) : State :=
  (s.taken tag r).answered tag r result payload

/-- The request that a request command brings to the port, with its tag; none for a command that is no request (10, section
10.7). -/
def requestOf : Instr → Option Waiting
  | .ident tag => some ⟨tag, .ident⟩
  | .status tag => some ⟨tag, .status⟩
  | .fetchNotice tag => some ⟨tag, .fetchNotice⟩
  | .reset tag scope => some ⟨tag, .reset scope⟩
  | .setMachine tag record => some ⟨tag, .setMachine record⟩
  | .setProfile tag number values => some ⟨tag, .setProfile number values⟩
  | .assignBars tag entries => some ⟨tag, .assignBars entries⟩
  | .readSettings tag => some ⟨tag, .readSettings⟩
  | .defineBlock tag id courses bars => some ⟨tag, .defineBlock id courses bars⟩
  | .blockData tag id first cells => some ⟨tag, .blockData id first cells⟩
  | .dropBlock tag id => some ⟨tag, .dropBlock id⟩
  | .blockInfo tag id => some ⟨tag, .blockInfo id⟩
  | .readBlockStart tag id course => some ⟨tag, .readBlockStart id course⟩
  | .readBlockNext tag => some ⟨tag, .readBlockNext⟩
  | .writeSequence tag steps => some ⟨tag, .writeSequence steps⟩
  | .switchSequenceNow tag => some ⟨tag, .switchSequence 0⟩
  | .switchSequenceTimed tag mode => some ⟨tag, .switchSequence mode⟩
  | .setCursor tag place => some ⟨tag, .setCursor place⟩
  | .locate tag start stride targets => some ⟨tag, .locate start stride targets⟩
  | .openStream tag first bars => some ⟨tag, .openStream first bars⟩
  | .courses tag count records => some ⟨tag, .courses count records⟩
  | .endStream tag => some ⟨tag, .endStream⟩
  | .flushCourses tag => some ⟨tag, .flushCourses⟩
  | .reference tag bars extension => some ⟨tag, .reference bars extension⟩
  | .jog tag bar target => some ⟨tag, .jog bar target⟩
  | .setRunState tag target => some ⟨tag, .setRunState target⟩
  | .getPosition tag => some ⟨tag, .getPosition⟩
  | .planReport tag => some ⟨tag, .planReport⟩
  | .unknownKind tag kind => some ⟨tag, .unknown kind⟩
  | .motionReset | .fullReset | .checkComplete | .locateDone | .byteReceived _ _ _ | .frameGapTimeout | .replySent
  | .encoderCount _ _ | .encoderError _ | .indexArrival _ | .stopDetect | .exchange _ | .statusFrame _ _ | .driveLost _
  | .enableTimeout _ | .energizeTimeEnd _ | .holdDelayExpiry _ | .jogTargetReached _ | .settleTimeout _
  | .zeroMoveComplete _ | .allowanceTimeout | .aligned _ | .enterHoldFromStandby | .alignmentStart | .enterRun | .enterHold
  | .enterStandby | .permitFrame | .powerOn _ _ | .pinReset | .resetRelease _ | .startUpEnd => none

/-! ### What an append brings about, whoever appends (05, R74) -/

/-- A record has joined the tail of the lists behind the records that stood there: the one that stood last has its ceiling and,
with a ceiling of 0, its infeasible mark and INFEASIBLE_COURSE; the permit is recomputed (05, R74; 06, R102, R104, R107). -/
def State.Joined (s t : State) (r : CourseRecord) : Prop :=
  ∃ ks c, s.lists.forward = ks ++ [c] ∧
    let m := s.machine
    let x := s.ceilingOf c r
    t.lists.forward = ks ++ [{ c with ceiling := some x, infeasible := c.infeasible || x.value == 0 }, r] ∧
    t.lists.queue.length = s.lists.queue.length + 1 ∧ t.lists.replay.length = s.lists.replay.length ∧
    t.lists = { s.lists with
      current := t.lists.current, replay := t.lists.replay, queue := t.lists.queue, expected := t.lists.expected } ∧
    t.planner = planOf m t.lists ∧
    (x.value ≠ 0 ∨ c.infeasible = true → t.link = s.link) ∧
    (∀ b move lap next, x.value = 0 → c.infeasible = false → x.source = .bar b move → c.lap b = some lap →
      r.lap b = some next →
      let ends := match move with | .overlap => (lap.front, lap.back) | .underlap => (lap.back, next.front)
      let d := (ends.1 - ends.2) + (ends.2 - ends.1)
      t.link = s.link.offer ⟨.infeasibleCourse d
          (match move with | .overlap => m.ovEnd - m.ovStart | .underlap => m.ulEnd - m.ulStart)
          (moveTime (s.profile b) (d * m.pitch)),
        match move with | .overlap => 0x02 | .underlap => 0x03, b, c.tag, s.tracker.angle⟩)

/-- A record has become current in empty lists: the report marks are clear, and no ceiling is computed (05, R74, R83;
06, R102). -/
def State.BecomesCurrent (s t : State) (r : CourseRecord) : Prop :=
  t.lists = { s.lists with
    current := some r, underrunMark := false, starvedMark := false, endMark := false, expected := t.lists.expected } ∧
  t.planner = planOf s.machine t.lists ∧ t.link = s.link

/-! ### What the shaft's movement and its events bring about, whichever command brings them (01, R10, R12, R13) -/

/-- A channel that has come to rest in IDLE: every timer stopped but the hold timer, which runs unless the hold delay is 0, and
every move dropped, pending or under way; the setpoint is held (07, R115, R128). -/
def Channel.rested (c : Channel) (m : MachineRecord) : Channel :=
  { c with
    state := .idle, phase := none, enableTimer := none, energizeTimer := none, settleTimer := none
    holdTimer := if m.holdDelay = 0 then none else some 0
    pendingMove := none, jog := none, move := none, limitSent := 0, aligned := false }

/-- The bar is in the remaining set of a referencing in flight (08, R138). -/
def State.remains (s : State) (b : Nat) : Bool :=
  match s.referencing with
  | some r => inSet r.remaining b
  | none => false

/-- The JOG_DONE of a jog that the shaft's movement ends: SHAFT_MOVED, and the last actual position less the target (08, R151). -/
def State.jogMoved (s : State) (b : Nat) : Option Notice :=
  match (s.channel b).jog, (s.channel b).last with
  | some j, some d => some ⟨.jogDone j.target (max (-8388608) (min 8388607 (d.actual - j.coord))) j.time, 0x03, b,
      s.currentTag, s.tracker.angle⟩
  | _, _ => none

/-- The REFERENCE_DONE of a referencing that the shaft's movement ends: SHAFT_MOVED joins its outcomes (08, R144, R147). -/
def State.referenceMoved (s : State) : Option Notice :=
  s.referencing.map fun r =>
    ⟨.referenceDone r.found, r.outcomes ||| 0x04, (barsOf r.selected).length, s.currentTag, s.tracker.angle⟩

/-- Every jog and the referencing have ended with SHAFT_MOVED: the channels hold in IDLE, those of the remaining set unreferenced; the
JOG_DONEs came in rising bar number, and the REFERENCE_DONE before or after them (08, R146, R147, R151; that order: log 9). Every
jogging channel has had a status, and none is in the remaining set, as R139, R148 and 07, R126 have it. -/
def State.MotionsMoved (s t : State) : Prop :=
  t = { s with channels := t.channels, referencing := none, link := t.link, draws := t.draws } ∧
  (∀ b, barExists b = true →
    let c := s.channel b
    t.channel b =
      if s.remains b then { c.rested s.machine with referenced := false, refPoint := none, lastTarget := 0 }
      else if c.jog.isSome then c.rested s.machine
      else c) ∧
  ((∀ b, barExists b = true → (s.channel b).jog.isSome = true → (s.channel b).last.isSome = true ∧ s.remains b = false) →
    let jogs := ((List.range 64).map (· + 1)).filterMap s.jogMoved
    let reference := s.referenceMoved.toList
    t.link = (jogs ++ reference).foldl Link.offer s.link ∨ t.link = (reference ++ jogs).foldl Link.offer s.link)

/-- What a forward crossing leaves of the state in which the angle has passed the wrap (01, R12, R16; 04, R60; 05, R76, R79; 09,
R155, R169): the course is measured and closed; in RUN and HALT the lists move, in STANDBY and HOLD they stay; in RUN a speed above
the course peak plus the margin is reported, before or after the lists move (log 8); the player feeds where it may, the peak begins
again, and a permit frame falls due. -/
def State.CrossesForward (s t : State) : Prop :=
  let k := s.tracker
  let speed : Option Nat := match k.courseStart with
    | some c => if k.valid then some (min 65535 (60000000 / max 1 (min 4294967295 (s.now - c)))) else none
    | none => none
  let u : State := { s with
    tracker := { k with side := some .lower, courseStart := some s.now, valid := true, speed := speed } }
  let drawn : State := { u with draws := s.draws + 1 }
  let report (v : State) : State := v.reportWith .overspeed 0 0 speed s.run.peak
  let closed (v : State) : State := { v with
    run := { v.run with peak := v.run.published }, permitLine := { v.permitLine with due := true } }
  let fast : Prop := s.run.state = .run ∧ ∃ v, speed = some v ∧ s.run.peak + s.machine.margin < v
  (s.run.state = .standby ∨ s.run.state = .hold → t = closed u.feed ∧ (s.canFeed = false → t = closed u)) ∧
  (s.run.state = .run ∨ s.run.state = .halt →
    (¬fast → t = closed u.crossForward.feed) ∧
    (fast → t = closed (report drawn).crossForward.feed ∨ t = closed (report drawn.crossForward).feed))

/-- What a backward crossing leaves of the state in which the angle has passed the wrap: the measurement is invalid, and in RUN and
HALT the lists move back (01, R12, R16; 05, R77, R79). -/
def State.CrossesBackward (s t : State) : Prop :=
  let u : State := { s with tracker := { s.tracker with valid := false, side := some .upper } }
  (s.run.state = .run ∨ s.run.state = .halt → t = u.crossBackward) ∧
  (s.run.state = .standby ∨ s.run.state = .hold → t = u)

/-- What a passage of ul_start leaves of the state in which the angle has passed it: the side, and in RUN and HALT the arrival or the
departure at the lists (01, R13; 05, R79 to R81). -/
def State.PassesUnderlap (s t : State) (d : Direction) : Prop :=
  let u : State := { s with
    tracker := { s.tracker with side := some (match d with | .forward => .upper | .backward => .lower) } }
  (s.run.state = .run ∨ s.run.state = .halt →
    t = match d with | .forward => u.arriveUnderlap | .backward => { u with lists := { u.lists with bound := false } }) ∧
  (s.run.state = .standby ∨ s.run.state = .hold → t = u)

end Sys2Proof.Machine
end

