-- ==== Sys2Proof/Certificates/Slice0/Obligations.lean ====
section
/-! DEFINITION. The statements for the provers. Each says in its own name what it states; its docstring names the rules it
formalises. `Quiet` and `PortFree` (Safety.lean) say that nothing else is due and the port is free; `taken` and `answered`
say what the link port adds around a request (10, R177, R179, R181). -/

open Sys2Proof Sys2Proof.Machine

/-! ### The queue, the power and the resets -/

/-- A step takes the command at the front of the queue and runs it with the queue's rest; on an empty queue 1 us passes and nothing
else changes (the model's choice, log 2). -/
def Obligations.StepTakesTheFrontCommand : Prop :=
  (∀ (c : Instr) (rest : List Instr) (s : State),
      step { s with pending := c :: rest } = exec c { s with pending := rest }) ∧
  (∀ s : State, s.pending = [] → step s = .next { s with now := s.now + 1 })

/-- POWER_ON and PIN_RESET (11, R191, R192): every block in its power-on state, the part held; POWER_ON reads the link rate from the
straps, PIN_RESET keeps it, and a hold that supply began stays one of supply. The model's choices: the reset cause stands from the
beginning of the hold, and a PIN_RESET during one keeps kind and cause (log 28); the model's own clock, queue and counter and the
present encoder levels stay (log 18). -/
def Obligations.PowerOnAndPinResetHoldThePart : Prop :=
  (∀ (rate1 rate0 : Bool) (s : State),
      exec (.powerOn rate1 rate0) s = .next
        { State.reset with
          pending := s.pending, now := s.now, draws := s.draws
          tracker := .initial s.tracker.levels s.now
          link := .initial (if rate1 && !rate0 then 4 else if rate0 && !rate1 then 2 else 1) }) ∧
  (∀ s : State,
      let held (bySupply : Bool) (cause : ResetCause) : State :=
        { State.reset with
          pending := s.pending, now := s.now, draws := s.draws, power := .held bySupply
          tracker := .initial s.tracker.levels s.now, run := .initial cause, link := .initial s.link.rate }
      (s.isHeld = false → exec .pinReset s = .next (held false .resetPin)) ∧
      (∀ bySupply, s.power = .held bySupply → exec .pinReset s = .next (held bySupply s.run.resetCause)))

/-- What State.reset holds of the values the manual gives for power-on (R18, R32, R50, R70, R95, R113, R137, R138, R174,
R178, R185), and that STOP is active and ATTENTION released while the part is held (R192). -/
def Obligations.ResetHoldsTheManualsValues : Prop :=
  State.reset.tracker.sync = .noSignal ∧ State.reset.tracker.angle = 0 ∧ State.reset.tracker.direction = .forward ∧
  State.reset.tracker.stopped = false ∧ State.reset.tracker.side = none ∧ State.reset.tracker.speed = none ∧
  State.reset.machine = Config.defaultMachine ∧ State.reset.profiles = List.replicate 8 Config.defaultProfile ∧
  (∀ b, State.reset.assigned b = false) ∧ (∀ id, (State.reset.block id).state = .empty) ∧
  State.reset.store.free = 262144 ∧ State.reset.store.readCursor = none ∧
  State.reset.player.active = none ∧ State.reset.player.pending = none ∧ State.reset.player.cursor = ⟨0, 0, 0⟩ ∧
  State.reset.lists.current = none ∧ State.reset.lists.queue = [] ∧ State.reset.lists.source = .player ∧
  State.reset.planner = ⟨0, .none⟩ ∧ (∀ b, (State.reset.channel b).state = .absent) ∧
  State.reset.referencing = none ∧ State.reset.run.state = .standby ∧ State.reset.run.halt = none ∧
  State.reset.run.published = 0 ∧ State.reset.run.peak = 0 ∧ State.reset.link.buffer = [] ∧
  State.reset.link.notices = [] ∧ State.reset.link.overflow = false ∧
  State.reset.stopActive = true ∧ State.reset.attention = false

/-- RESET_RELEASE and START_UP_END (11, R192; 09, R155, R172): the 20 ms start-up time begins, the tracker samples the levels with its
stop timer at zero, and the reset cause is POWER_ON when supply began the hold and RESET_PIN when the RESET input did; at its end
the receiver is in HUNT and the first permit frame goes out with the values as they stand. The clock, which is never set back, is
log 1, and the line time of the frame log 15. -/
def Obligations.ReleaseStartsThePart : Prop :=
  (∀ (levels : Levels) (bySupply : Bool) (s : State), s.power = .held bySupply →
      exec (.resetRelease levels) s = .next
        { s with
          power := .startUp (s.now + 20000)
          tracker := .initial levels s.now
          run := { s.run with resetCause := if bySupply then .powerOn else .resetPin } }) ∧
  (∀ (t : Nat) (s : State), s.power = .startUp t →
      exec .startUpEnd s = .next
        { s with
          now := max s.now t
          power := .running
          link := { s.link with rx := { s.link.rx with phase := .hunt, bytes := [] } }
          permitLine :=
            { due := false
              frame := permitFrameBytes s.run.published (s.run.state != .run) s.run.state
              busyUntil := max s.now t + lineTime s.link.rate 6 } })

/-- RESET (09, R173): answered OK before it takes effect, which is then owed in the scope asked for. -/
def Obligations.ResetIsAnsweredBeforeItActs : Prop :=
  ∀ (tag : Tag) (s : State), s.Quiet → s.PortFree →
    (∀ scope : Scope, exec (.reset tag (match scope with | .motion => 0 | .full => 1)) s = .next
      (((s.taken tag (.reset (match scope with | .motion => 0 | .full => 1))).updLink
          fun l => { l with resetOwed := some scope }).answered tag
        (.reset (match scope with | .motion => 0 | .full => 1)) .ok [])) ∧
    (∀ scope, 1 < scope → exec (.reset tag scope) s = .next (s.replies tag (.reset scope) .badField [0]))

/-- MOTION_RESET and FULL_RESET (09, R173; 11, R192), once the reply is out. MOTION: the run state is STANDBY, the lists, the permit, a
locate and a referencing are gone, each assigned channel is OFF and each other ABSENT, unreferenced and with its setpoint and view
kept; tracker, settings, store, tables and notices are kept. FULL: every block as after a pin reset, with cause RESET_FULL and no
start-up time; rate, levels and the model's own fields stay (log 18). The first permit frame is sent at the reset, with the values
that it leaves and before a waiting request is handled; on a line still busy with a frame it falls due (log 19; the line: log 15). -/
def Obligations.TheScopesOfResetTakeEffect : Prop :=
  (∀ s : State, s.power = .running → s.link.resetOwed = some .motion → s.link.tx = none → s.dueStep = none →
      s.channels.length = 64 →
      ∃ t, exec .motionReset s = .next (match s.link.buffer with | [] => t | w :: _ => t.answer w) ∧
        t.tracker = s.tracker ∧ t.machine = s.machine ∧ t.profiles = s.profiles ∧ t.assign = s.assign ∧
        t.store = s.store ∧ t.player = { s.player with feedStopped := false, search := none } ∧
        t.lists = { Lists.initial with source := s.lists.source } ∧ t.planner = ⟨0, .none⟩ ∧ t.referencing = none ∧
        t.run = .initial .resetMotion ∧
        t.permitLine =
          (if s.permitLine.busyUntil ≤ s.now then
            ⟨false, permitFrameBytes 0 true .standby, s.now + (60 + s.link.rate - 1) / s.link.rate⟩
          else { s.permitLine with due := true }) ∧
        t.link = { s.link with resetOwed := none } ∧ t.power = .running ∧ t.now = s.now ∧ t.draws = s.draws ∧
        t.pending = s.pending ∧
        ∀ b, barExists b = true →
          (t.channel b).state = (if s.assigned b then .off else .absent) ∧ (t.channel b).referenced = false ∧
          (t.channel b).refPoint = none ∧ (t.channel b).lastTarget = 0 ∧ (t.channel b).setpoint = (s.channel b).setpoint ∧
          (t.channel b).view = (s.channel b).view ∧ (t.channel b).last = (s.channel b).last ∧
          (t.channel b).missed = (s.channel b).missed ∧ (t.channel b).pendingMove = none ∧ (t.channel b).jog = none) ∧
  (∀ s : State, s.power = .running → s.link.resetOwed = some .full → s.link.tx = none → s.dueStep = none →
      exec .fullReset s = .next
        { State.reset with
          pending := s.pending, now := s.now, draws := s.draws, power := .running
          tracker := .initial s.tracker.levels s.now, run := .initial .resetFull
          permitLine :=
            if s.permitLine.busyUntil ≤ s.now then
              ⟨false, permitFrameBytes 0 true .standby, s.now + (60 + s.link.rate - 1) / s.link.rate⟩
            else { s.permitLine with due := true }
          link := .initial s.link.rate })

/-! ### Requests that only read, and the port (10) -/

/-- The five requests that report state (10, R186 to R188; 02, R31; 06, R111) answer OK with their payload and change nothing but the
link; the payloads of STATUS, READ_SETTINGS, GET_POSITION and PLAN_REPORT hold their fields in the layout of 10, section 10.7 (and
log 17 where it leaves one open). A request of an unknown kind is refused with UNKNOWN_KIND and no payload (10, R180); that the
reply's kind is the request's with 0x80 added in one byte, also above 0x7F, is the model's choice (log 27). -/
def Obligations.QueriesAnswerAndChangeNothing : Prop :=
  (∀ (tag : Tag) (s : State), s.Quiet → s.PortFree →
      exec (.ident tag) s = .next (s.replies tag .ident .ok
        [0x0E, 0x31, 0x06, 0x40, 1, 64, 128, 0x00, 0x04, 0x00, 0x00, 64, 32, 16]) ∧
      exec (.status tag) s = .next (s.replies tag .status .ok s.statusBytes) ∧
      exec (.readSettings tag) s = .next (s.replies tag .readSettings .ok s.settingsBytes) ∧
      exec (.getPosition tag) s = .next (s.replies tag .getPosition .ok s.positionBytes) ∧
      exec (.planReport tag) s = .next (s.replies tag .planReport .ok s.planBytes)) ∧
  (∀ (tag : Tag) (kind : Nat) (s : State), s.Quiet → s.PortFree →
      ∃ t, exec (.unknownKind tag kind) s = .next t ∧ t = s.replies tag (.unknown kind) .unknownKind [] ∧
        t.link.tx = some ⟨tag, (kind + 0x80) % 256, [0x01, byteOf s.room, t.flagByte, 0]⟩ ∧
        { t with link := s.link } = s) ∧
  ((∀ n, beBytes 1 n = [byteOf n] ∧ beBytes 2 n = [byteOf (n / 256), byteOf n] ∧
      beBytes 4 n = [byteOf (n / 16777216), byteOf (n / 65536), byteOf (n / 256), byteOf n]) ∧
    ∀ s : State,
      let two (n : Nat) : List Byte := beBytes 2 n
      let tag (t : Tag) : List Byte := beBytes 4 t.toNat
      let flag (b : Bool) : Byte := if b then 1 else 0
      let bits (a b c d : Bool) : Byte :=
        byteOf ((if a then 1 else 0) + (if b then 2 else 0) + (if c then 4 else 0) + (if d then 8 else 0))
      let m := s.machine
      let sync : Byte := match s.tracker.sync with | .noSignal => 0 | .seekingIndex => 1 | .checking => 2 | .locked => 3
      s.settingsBytes =
        [m.pitch, m.indexAngle].flatMap two ++ [byteOf m.tolerance] ++
          [m.ovStart, m.ovEnd, m.ulStart, m.ulEnd, m.dmax, m.vmax, m.margin, m.stopDetect, m.followLimit, m.inPosition,
            m.settleTimeout, m.energizeTime, m.enableTimeout, m.holdDelay].flatMap two ++
          s.profiles.flatMap (fun p => two p.accel ++ two p.speed ++ [byteOf p.travel, byteOf p.homing] ++ beBytes 4 p.search ++
            two p.zeroOffset) ++
          s.assign.map (fun a => match a with | some n => byteOf n | none => 0xFF) ∧
      (∃ mask : BarSet, (∀ b, barExists b = true → mask.getLsbD (b - 1) = (s.channel b).referenced) ∧
        s.statusBytes =
          [match s.run.state with | .standby => 0 | .hold => 1 | .run => 2 | .halt => 3,
            match s.run.requested with | some .standby => 0 | some .hold => 1 | some .run => 2 | none => 0xFF,
            bits s.run.waiting s.run.changing s.run.badRequest s.lists.bound] ++
          (match s.run.halt with
            | some h => [byteOf (causeCode h.cause), byteOf h.detail, byteOf h.bar] ++ tag h.tag ++ two h.angle ++
                two (h.speed.getD 0) ++ [flag h.speed.isSome]
            | none => List.replicate 12 0) ++
          [sync, flag s.tracker.stopped] ++ two s.tracker.angle ++
          (match s.lists.current with | some r => 1 :: tag r.tag | none => [0, 0, 0, 0, 0]) ++
          [byteOf s.lists.history.length, byteOf s.lists.replay.length, byteOf s.lists.queue.length,
            match s.lists.source with | .player => 0 | .stream => 1,
            bits s.lists.streamOpen s.lists.endSeen s.player.feedStopped false] ++
          two s.run.published ++ two s.run.peak ++ beBytes 8 mask.toNat ++
          [bits s.referencing.isSome s.player.search.isSome false false, byteOf s.link.notices.length, flag s.link.overflow,
            match s.run.resetCause with | .powerOn => 0 | .resetPin => 1 | .resetFull => 2 | .resetMotion => 3] ∧
        s.statusBytes.length = 45) ∧
      s.positionBytes =
        (match s.lists.current with
          | none => [0]
          | some r => 1 :: tag r.tag ++ (match r.origin with
              | .player c pass => [0, byteOf c.step, byteOf c.rep] ++ two c.course ++ tag pass
              | .stream => [1, 0, 0, 0, 0, 0, 0, 0, 0])) ++
        two s.tracker.angle ++ [match s.tracker.direction with | .forward => 0 | .backward => 1, flag s.tracker.stopped] ++
        two (s.tracker.speed.getD 0) ++ [flag s.tracker.speed.isSome, sync] ++ two s.lists.behind ++ two s.lists.ahead ∧
      s.planBytes =
        two s.planner.permit ++ two s.run.published ++ [byteOf s.lists.after.length] ++
        ((List.range 8).flatMap fun k => match (s.lists.current.toList ++ s.lists.after)[k]?.bind CourseRecord.ceiling with
          | some c => 1 :: two c.value
          | none => [0, 0, 0]) ++
        (match s.planner.term with
          | .none => [0, 0, 0, 0, 0, 0, 0, 0, 0]
          | .ceiling j t source => [1, byteOf j, 1] ++ tag t ++ (match source with
              | .vmax => [0, 0] | .cap => [1, 0] | .bar b .overlap => [2, byteOf b] | .bar b .underlap => [3, byteOf b])
          | .tail n => [2, byteOf n, 0, 0, 0, 0, 0, 0, 0]) ∧
      s.planBytes.length = 38)

/-- A reply's header (10, R181): result, room, the flag byte with ATTENTION, overflow, bad request and the run state, and a
zero byte. -/
def Obligations.ReplyHeaderShowsRoomAndFlags : Prop :=
  ∀ (s : State) (r : Result), s.lists.queue.length ≤ 32 →
    ∃ flags, s.replyHeader r = [byteOf (resultCode r), byteOf (32 - s.lists.queue.length), flags, 0] ∧
      flags.getLsbD 0 = !s.link.notices.isEmpty ∧ flags.getLsbD 1 = s.link.overflow ∧
      flags.getLsbD 2 = s.run.badRequest ∧ flags.getLsbD 3 = false ∧ flags.toNat / 16 = runStateCode s.run.state

/-- FETCH_NOTICE (10, R184): the oldest record leaves the queue and is returned with the records left and the overflow flag
before; the one that empties the queue clears the flag. On an empty queue a count of 0 and no record. A record is 18 bytes in the
layout of 10, section 10.7, the extra field that of its kind with its unused bytes 0. -/
def Obligations.FetchNoticeTakesTheOldest : Prop :=
  (∀ (tag : Tag) (s : State), s.Quiet → s.PortFree →
      (∀ n rest, s.link.notices = n :: rest →
        exec (.fetchNotice tag) s = .next
          (((s.taken tag .fetchNotice).updLink fun l =>
              { l with notices := rest, overflow := if rest = [] then false else s.link.overflow }).answered tag
            .fetchNotice .ok ([1] ++ noticeBytes n ++ [byteOf rest.length, if s.link.overflow then 1 else 0]))) ∧
      (s.link.notices = [] →
        exec (.fetchNotice tag) s = .next
          (s.replies tag .fetchNotice .ok [0, 0, if s.link.overflow then 1 else 0]))) ∧
  (∀ n : Notice,
      let two (x : Nat) : List Byte := [byteOf (x / 256), byteOf x]
      let three (x : Nat) : List Byte := byteOf (x / 65536) :: two x
      let four (x : Nat) : List Byte := byteOf (x / 16777216) :: three x
      let signed (x : Int) : List Byte := three (x % 16777216).toNat
      let mask (m : BarSet) : List Byte := four (m.toNat / 4294967296) ++ four m.toNat
      let flag (b : Bool) : Byte := if b then 1 else 0
      let state (r : RunState) : Byte := match r with | .standby => 0 | .hold => 1 | .run => 2 | .halt => 3
      let target (t : Target) : Byte := match t with | .standby => 0 | .hold => 1 | .run => 2
      let halt (detail : Nat) (speed : Option Nat) (peak : Nat) (requested : Option Target) : List Byte :=
        [byteOf detail] ++ two (speed.getD 0) ++ two peak ++
          [match requested with | some t => target t | none => 0xFF, flag speed.isNone, 0]
      let channel (c : ChannelState) : Byte := match c with
        | .absent => 0 | .off => 1 | .energizing => 2 | .idle => 3 | .idleReduced => 4 | .jogging => 5 | .referencing => 6
        | .aligning => 7 | .following => 8 | .faulted => 9
      let view (v : DriveView) : Byte := match v with | .unknown => 0 | .ready => 1 | .notReady => 2 | .silent => 3
      let sync (y : SyncState) : Byte := match y with | .noSignal => 0 | .seekingIndex => 1 | .checking => 2 | .locked => 3
      let cause (c : SyncCause) : Byte := match c with
        | .firstCount => 1 | .indexFound => 2 | .indexConfirmed => 3 | .indexMismatch => 4 | .encoderError => 5
        | .settingsChanged => 6
      let source (x : Source) : Byte := match x with | .player => 0 | .stream => 1
      let kindAndExtra : Byte × List Byte := match n.report with
        | .stateReached faulted => (0x01, mask faulted)
        | .stateFailed t changing after detail => (0x02, [target t, flag changing, state after, byteOf detail, 0, 0, 0, 0])
        | .halted detail speed peak requested => (0x03, halt detail speed peak requested)
        | .furtherFault detail speed peak requested => (0x04, halt detail speed peak requested)
        | .barFault before detail error compared =>
          (0x05, [channel before, byteOf detail] ++ three error ++ signed compared)
        | .driveChange before fault switch actual =>
          (0x06, [view before, byteOf fault, flag switch] ++ signed actual ++ [0, 0])
        | .jogDone index difference time => (0x07, [byteOf index] ++ signed difference ++ four time)
        | .referenceDone found => (0x08, mask found)
        | .syncChange before why angleBefore => (0x09, [sync before, cause why] ++ two angleBefore ++ [0, 0, 0, 0])
        | .sequenceSwitched pass steps => (0x0A, four pass.toNat ++ [byteOf steps, 0, 0, 0])
        | .locateDone place visited => (0x0B, [byteOf place.step, byteOf place.rep] ++ two place.course ++ four visited)
        | .feedStopped place id => (0x0C, [byteOf place.step, byteOf place.rep] ++ two place.course ++ [byteOf id, 0, 0, 0])
        | .starved x history feedStopped => (0x0D, [source x, byteOf history, flag feedStopped, 0, 0, 0, 0, 0])
        | .infeasibleCourse distance window time => (0x0E, [byteOf distance] ++ two window ++ four time ++ [0])
        | .runEnd x history => (0x0F, [source x, byteOf history, 0, 0, 0, 0, 0, 0])
        | .linkOverrun tag kind => (0x10, four tag.toNat ++ [byteOf kind, 0, 0, 0])
        | .blockReady digest courses cells => (0x11, two digest.toNat ++ two courses ++ four cells)
      noticeBytes n =
          [kindAndExtra.1, byteOf n.detail] ++ two n.subject ++ four n.tag.toNat ++ two n.angle ++ kindAndExtra.2 ∧
        (noticeBytes n).length = 18)

/-- The receive buffer (10, R177, R179): while a reply goes out a second request frame takes the free place and waits, and one that
finds both places held is discarded, with a LINK_OVERRUN notice that carries its tag and kind. On a free port a request is handled
at once; before the part takes frames it is dropped (R178; log 4). REPLY_SENT frees the place at the instant the reply ends (the
clock: log 1, 15), and the next request in the buffer is handled; none waiting, the port is free; with a reset owed no request is
served (09, R173). With no reply going out REPLY_SENT changes nothing (log 7). -/
def Obligations.TheBufferHoldsTwoRequests : Prop :=
  (∀ (tag : Tag) (r : Request) (s : State), s.power = .running → 2 ≤ s.link.buffer.length →
      s.request tag r = s.hunt.updLink fun l =>
        l.offer ⟨.linkOverrun tag (requestKind r), 0, 0, s.currentTag, s.tracker.angle⟩) ∧
  (∀ (r : ReplyFrame) (s : State), s.Quiet → s.link.tx = some r →
      let freed := { s with
        now := max s.now s.link.txUntil, link := { s.link with tx := none, buffer := s.link.buffer.tail } }
      exec .replySent s = .next (match s.link.buffer.tail with | [] => freed | w :: _ => freed.answer w)) ∧
  ((∀ (c : Instr) (w : Waiting) (s : State), requestOf c = some w →
      (s.power = .running → s.dueStep = none → s.link.tx.isSome = true → s.link.buffer.length < 2 →
        exec c s = .next { s with link := { s.link with
          rx := { s.link.rx with phase := .hunt, bytes := [] }, buffer := s.link.buffer ++ [w] } }) ∧
      (s.power = .running → s.dueStep = none → s.link.tx.isSome = true → 2 ≤ s.link.buffer.length →
        exec c s = .next (s.hunt.updLink fun l =>
          l.offer ⟨.linkOverrun w.tag (requestKind w.request), 0, 0, s.currentTag, s.tracker.angle⟩)) ∧
      (s.Quiet → s.PortFree → exec c s = .next ((s.taken w.tag w.request).answer w)) ∧
      (∀ t, s.power = .startUp t → s.dueStep = none → s.link.resetOwed = none → exec c s = .next s)) ∧
    (∀ (r : ReplyFrame) (scope : Scope) (s : State), s.power = .running → s.dueStep = none → s.link.resetOwed = some scope →
      s.link.tx = some r →
      exec .replySent s = .next { s with
        now := max s.now s.link.txUntil, link := { s.link with tx := none, buffer := s.link.buffer.tail } }) ∧
    (∀ s : State, s.Quiet → s.link.tx = none → exec .replySent s = .next s))

/-- The bytes of a whole good link frame, received in HUNT one after another without a long gap, are the request that its
kind and payload spell, offered to the buffer at the last byte (10, R176, R177). The bound of 1 ms on the time of each byte is one
on byte ends, which is enough for the gap (log 15), by the model's clock (log 1). -/
def Obligations.BytesOfAFrameAreItsRequest : Prop :=
  ∀ (tag : Tag) (kind : Nat) (payload : List Byte) (dts : List Nat) (s : State),
    s.power = .running → s.link.rx.phase = .hunt → kind < 256 → payload.length ≤ 541 →
    dts.length = payload.length + 10 → (∀ dt ∈ dts, dt ≤ 1000) → 0 < s.link.rate →
    ((linkFrame tag kind payload).zip dts).foldl (fun s x => (s.elapse x.2).receiveByte x.1 true) s =
      let t := s.elapse dts.sum
      ({ t with link := { t.link with rx := { t.link.rx with
          phase := .hunt, bytes := [], lastAt := s.now + dts.dropLast.sum } } }).offerRequest tag (parseRequest kind payload)

/-- BYTE_RECEIVED and FRAME_GAP_TIMEOUT (10, R175 to R177): in HUNT the start byte begins a frame and any other byte is dropped; LENGTH
keeps its first byte, and the second ends the frame when the length is outside 2 to 546; BODY takes as many bytes as the length
says and CHECK two; a whole frame with a bad CRC, or of a length of 2 to 4, is discarded, and any other is the request it spells.
Inside a frame a low stop bit ends it, and so does a gap of more than 1 ms, after which the byte is the first judged in HUNT. The
clock moves on by the time given (log 1), and the gap is taken between the ends of two bytes, less the 10 bits of the later one
(log 15). The gap's own command returns the receiver to HUNT at the timer's end (log 1); in HUNT the gap timer does not run. -/
def Obligations.ReceiverTakesBytesByPhase : Prop :=
  (∀ (v : Byte) (dt : Nat) (s : State), s.Quiet →
      let t := s.elapse dt
      let put (rx : Receiver) : State := { t with link := { t.link with rx := rx } }
      (s.link.rx.phase = .hunt → v = 0xA5 →
        exec (.byteReceived v true dt) s = .next (put ⟨.length, [], t.now⟩)) ∧
      (s.link.rx.phase = .hunt → v ≠ 0xA5 → exec (.byteReceived v true dt) s = .next t) ∧
      (∀ a, s.link.rx.phase = .length → s.link.rx.bytes = [a] → t.gapTooLong = false →
        exec (.byteReceived v true dt) s = .next (
          if 2 ≤ 256 * a.toNat + v.toNat ∧ 256 * a.toNat + v.toNat ≤ 546 then put ⟨.body, [a, v], t.now⟩
          else put { s.link.rx with phase := .hunt, bytes := [] })) ∧
      exec (.byteReceived v false dt) s = .next (put { s.link.rx with phase := .hunt, bytes := [] }) ∧
      (s.link.rx.phase ≠ .hunt → 1000 * s.link.rate + 10 < s.link.rate * (t.now - s.link.rx.lastAt) →
        exec (.byteReceived v true dt) s = .next (
          if v = 0xA5 then put ⟨.length, [], t.now⟩ else put { s.link.rx with phase := .hunt, bytes := [] }))) ∧
  (∀ (v : Byte) (dt : Nat) (s : State), s.Quiet →
      let t := s.elapse dt
      let put (rx : Receiver) : State := { t with link := { t.link with rx := rx } }
      let hunting : State := put { s.link.rx with phase := .hunt, bytes := [] }
      let all := s.link.rx.bytes ++ [v]
      s.link.rate * (t.now - s.link.rx.lastAt) ≤ 1000 * s.link.rate + 10 →
      (s.link.rx.phase = .length → s.link.rx.bytes = [] →
        exec (.byteReceived v true dt) s = .next (put ⟨.length, [v], t.now⟩)) ∧
      (∀ a b rest, s.link.rx.bytes = a :: b :: rest →
        let size := 256 * a.toNat + b.toNat
        let covered := all.take (2 + size)
        (s.link.rx.phase = .body →
          exec (.byteReceived v true dt) s = .next
            (put ⟨if all.length < 2 + size then .body else .check, all, t.now⟩)) ∧
        (s.link.rx.phase = .check → all.length < 4 + size →
          exec (.byteReceived v true dt) s = .next (put ⟨.check, all, t.now⟩)) ∧
        (s.link.rx.phase = .check → all.length = 4 + size →
          (all.drop (2 + size) ≠ crcBytes covered ∨ size < 5 → exec (.byteReceived v true dt) s = .next hunting) ∧
          (all.drop (2 + size) = crcBytes covered → 5 ≤ size →
            exec (.byteReceived v true dt) s = .next (hunting.offerRequest (BitVec.ofNat 32 (beNat ((covered.drop 2).take 4)))
              (parseRequest (covered.getD 6 0).toNat (covered.drop 7))))))) ∧
  (∀ s : State, s.Quiet →
      exec .frameGapTimeout s = .next (
        if s.link.rx.phase = .hunt then s
        else { s with
          now := max s.now (s.link.rx.lastAt + 1001)
          link := { s.link with rx := { s.link.rx with phase := .hunt, bytes := [] } } }))

/-! ### Settings (02) -/

/-- SET_MACHINE accepted with the index angle unchanged, and SET_PROFILE accepted (R20, R22, R25): the record, or the named profile, is
replaced whole. In LOCKED the underlap side is judged again by the new ul_start (01, R2); a MOVING shaft whose time since the last
count has reached a new stop-detect time is STOPPED (01, R15; the clock: log 1). Nothing else changes but the link. -/
def Obligations.AcceptedSettingsAreInForce : Prop :=
  (∀ (tag : Tag) (m : MachineRecord) (s : State), s.Quiet → s.PortFree → s.run.state = .standby →
      s.run.changing = false → badMachineField m = none → m.indexAngle = s.machine.indexAngle →
      exec (.setMachine tag m) s = .next
        (({ s with
            machine := m
            tracker := { s.tracker with
              side :=
                if m.ulStart ≠ s.machine.ulStart ∧ s.tracker.sync = SyncState.locked then
                  some (if s.tracker.angle < m.ulStart then .lower else .upper)
                else s.tracker.side
              stopped :=
                if m.stopDetect ≠ s.machine.stopDetect ∧ s.tracker.countedAt + 1000 * m.stopDetect ≤ s.now then true
                else s.tracker.stopped } }.taken tag (.setMachine m)).answered tag (.setMachine m) .ok [])) ∧
  (∀ (tag : Tag) (n : Nat) (p : Profile) (s : State), s.Quiet → s.PortFree → s.run.state = .standby →
      s.run.changing = false → badProfileField n p = none →
      exec (.setProfile tag n p) s = .next
        (({ s with profiles := s.profiles.set n p }.taken tag (.setProfile n p)).answered tag (.setProfile n p) .ok []))

/-- The first bad field of a machine record, in index order, is the one the refusal names, and no field after it is judged
(R20); every range and window check of section 2.2 and R21 is good exactly when no field is bad. -/
def Obligations.MachineRecordIsJudgedInOrder : Prop :=
  (∀ (m : MachineRecord) (i : Nat), badMachineField m = some i ↔
    (machineChecks m)[i]? = some false ∧ ∀ j, j < i → (machineChecks m)[j]? = some true) ∧
  (∀ m : MachineRecord, badMachineField m = none ↔
    (200 ≤ m.pitch ∧ m.pitch ≤ 5000) ∧ m.indexAngle ≤ 3999 ∧ (1 ≤ m.tolerance ∧ m.tolerance ≤ 20) ∧
    (m.ovStart < m.ovEnd ∧ m.ovEnd < m.ulStart ∧ m.ulStart < m.ulEnd ∧ m.ulEnd ≤ 4000 ∧
      100 ≤ m.ovEnd - m.ovStart ∧ 100 ≤ m.ulEnd - m.ulStart) ∧
    (10 ≤ m.dmax ∧ m.dmax ≤ 1000) ∧ (60 ≤ m.vmax ∧ m.vmax ≤ 3000) ∧ m.margin ≤ 500 ∧
    (20 ≤ m.stopDetect ∧ m.stopDetect ≤ 1000) ∧ (50 ≤ m.followLimit ∧ m.followLimit ≤ 5000) ∧
    (5 ≤ m.inPosition ∧ m.inPosition ≤ 500) ∧ (10 ≤ m.settleTimeout ∧ m.settleTimeout ≤ 1000) ∧
    (10 ≤ m.energizeTime ∧ m.energizeTime ≤ 1000) ∧ (100 ≤ m.enableTimeout ∧ m.enableTimeout ≤ 2000) ∧
    (m.holdDelay = 0 ∨ 100 ≤ m.holdDelay ∧ m.holdDelay ≤ 60000))

/-- The three settings requests outside STANDBY are refused with WRONG_STATE, and in STANDBY while CHANGING with BUSY, whatever
their fields; a bad field is refused by its index; ASSIGN_BARS is refused with BAD_LENGTH for a count outside 1 to 64, and with the
index of its first entry whose bar, profile or repetition is bad; nothing but the link changes (R19, R20, R25, R28). A profile is good
exactly within the ranges of its table, and the bad field named is the first in index order (R25). -/
def Obligations.SettingsRefusalsChangeNothing : Prop :=
  (∀ (tag : Tag) (m : MachineRecord) (n : Nat) (p : Profile) (es : List AssignEntry) (s : State), s.Quiet → s.PortFree →
      (∀ r : Result,
        (s.run.state ≠ .standby ∧ r = .wrongState) ∨ (s.run.state = .standby ∧ s.run.changing = true ∧ r = .busy) →
        exec (.setMachine tag m) s = .next (s.replies tag (.setMachine m) r []) ∧
        exec (.setProfile tag n p) s = .next (s.replies tag (.setProfile n p) r []) ∧
        exec (.assignBars tag es) s = .next (s.replies tag (.assignBars es) r [])) ∧
      (s.run.state = .standby → s.run.changing = false →
        (∀ i, badMachineField m = some i →
          exec (.setMachine tag m) s = .next (s.replies tag (.setMachine m) .badField [byteOf i])) ∧
        (∀ i, badProfileField n p = some i →
          exec (.setProfile tag n p) s = .next (s.replies tag (.setProfile n p) .badField [byteOf i])) ∧
        (es.length = 0 ∨ 64 < es.length →
          exec (.assignBars tag es) s = .next (s.replies tag (.assignBars es) .badLength [])) ∧
        (∀ i e, 1 ≤ es.length → es.length ≤ 64 → es[i]? = some e →
          let bad (before : List AssignEntry) (x : AssignEntry) : Prop :=
            x.bar < 1 ∨ 64 < x.bar ∨ (7 < x.profile ∧ x.profile ≠ 255) ∨ ∃ y ∈ before, y.bar = x.bar
          bad (es.take i) e → (∀ j x, j < i → es[j]? = some x → ¬bad (es.take j) x) →
          exec (.assignBars tag es) s = .next (s.replies tag (.assignBars es) .badField [byteOf i])))) ∧
  (∀ (n : Nat) (p : Profile),
      let good (i : Nat) : Prop := match i with
        | 0 => n ≤ 7
        | 1 => 10 ≤ p.accel ∧ p.accel ≤ 500
        | 2 => 100 ≤ p.speed ∧ p.speed ≤ 5000
        | 3 => 1 ≤ p.travel ∧ p.travel ≤ 63
        | 4 => 4 ≤ p.homing ∧ p.homing ≤ 200
        | 5 => 1000 ≤ p.search ∧ p.search ≤ 400000
        | _ => p.zeroOffset ≤ 50000
      (badProfileField n p = none ↔ ∀ i, i ≤ 6 → good i) ∧
      (∀ i, badProfileField n p = some i ↔ i ≤ 6 ∧ ¬good i ∧ ∀ j, j < i → good j))

/-- A new index angle accepted (R22; 01, R11, R14). In LOCKED and CHECKING the tracker goes to SEEKING_INDEX with its angle kept, and
one SYNC_CHANGE with cause SETTINGS_CHANGED is offered before the reply; LOCKED is left first, which drops the course timing and the
side and ends following. In NO_SIGNAL and SEEKING_INDEX the record alone changes. A new stop-detect time that the time since the
last count has reached makes the shaft STOPPED in each case (01, R15; the clock: log 1). -/
def Obligations.NewIndexAngleEndsTheLock : Prop :=
  ∀ (tag : Tag) (m : MachineRecord) (s : State), s.Quiet → s.PortFree → s.run.state = .standby →
    s.run.changing = false → badMachineField m = none → m.indexAngle ≠ s.machine.indexAngle →
    let stopped : Bool :=
      if m.stopDetect ≠ s.machine.stopDetect ∧ s.tracker.countedAt + 1000 * m.stopDetect ≤ s.now then true
      else s.tracker.stopped
    let changed (before : SyncState) : Notice :=
      ⟨.syncChange before .settingsChanged s.tracker.angle, 0x01, 0, s.currentTag, s.tracker.angle⟩
    (s.tracker.sync = .locked →
      ∃ cs, exec (.setMachine tag m) s = .next
        (({ s with
            machine := m, channels := cs, link := s.link.offer (changed .locked)
            tracker := { s.tracker with
              sync := .seekingIndex, courseStart := none, speed := none, side := none, stopped := stopped } }.taken tag
          (.setMachine m)).answered tag (.setMachine m) .ok []) ∧
        ∀ b, barExists b = true → let c := cs.getD (b - 1) Channel.initial
          if (s.channel b).state = .following then c.state = .idle ∧ c.setpoint = (s.channel b).setpoint
          else c = s.channel b) ∧
    (s.tracker.sync = .checking →
      exec (.setMachine tag m) s = .next
        (({ s with
            machine := m, link := s.link.offer (changed .checking)
            tracker := { s.tracker with sync := .seekingIndex, stopped := stopped } }.taken tag (.setMachine m)).answered tag
          (.setMachine m) .ok [])) ∧
    (s.tracker.sync = .noSignal ∨ s.tracker.sync = .seekingIndex →
      exec (.setMachine tag m) s = .next
        (({ s with machine := m, tracker := { s.tracker with stopped := stopped } }.taken tag (.setMachine m)).answered tag
          (.setMachine m) .ok []))

/-- ASSIGN_BARS accepted (R28 to R30): each named bar takes its profile or ABSENT, a bar that is not named keeps its own; a
channel goes from ABSENT to OFF, or to ABSENT with its setpoint kept and its view and status dropped; an open stream stays open
exactly when all its bars are still assigned. Nothing else changes but the link, which takes the request and answers it. -/
def Obligations.AssignBarsMovesTheChannels : Prop :=
  ∀ (tag : Tag) (es : List AssignEntry) (s : State), s.Quiet → s.PortFree → s.run.state = .standby →
    s.run.changing = false → 1 ≤ es.length → es.length ≤ 64 → badAssignEntry es = none → s.Sized →
    ∃ (table : List (Option Nat)) (cs : List Channel),
      let t : State := { s with
        assign := table, channels := cs
        lists :=
          if s.lists.streamOpen = true ∧ (∃ b ∈ s.lists.streamBars, table.getD (b - 1) none = none) then
            { s.lists with streamOpen := false, streamBars := [], expected := none }
          else s.lists }
      exec (.assignBars tag es) s = .next ((t.taken tag (.assignBars es)).answered tag (.assignBars es) .ok []) ∧
      t.Sized ∧
      (∀ e ∈ es, t.profileNumber e.bar = if e.profile = 255 then none else some e.profile) ∧
      (∀ b, barExists b = true → (∀ e ∈ es, e.bar ≠ b) → t.profileNumber b = s.profileNumber b) ∧
      (∀ b, barExists b = true → s.assigned b = false → t.assigned b = true →
        (t.channel b).state = .off ∧ (t.channel b).setpoint = (s.channel b).setpoint ∧
        (t.channel b).view = (s.channel b).view ∧ (t.channel b).referenced = false) ∧
      (∀ b, barExists b = true → s.assigned b = true → t.assigned b = false →
        (t.channel b).state = .absent ∧ (t.channel b).setpoint = (s.channel b).setpoint ∧
        (t.channel b).view = .unknown ∧ (t.channel b).last = none ∧ (t.channel b).missed = 0 ∧
        (t.channel b).lastTarget = 0 ∧ (t.channel b).holdTimer = none ∧ (t.channel b).referenced = false) ∧
      (∀ b, barExists b = true → s.assigned b = t.assigned b → t.channel b = s.channel b)

/-! ### The pattern store (03) -/

/-- DEFINE_BLOCK (R36, R37): judged by the order of its table, the first case deciding; accepted, the entry is LOADING with
its courses and bars, no cells and no digest, the free-cell count is lowered by the cell count, and both counts are replied. -/
def Obligations.DefineBlockFollowsItsTable : Prop :=
  ∀ (tag : Tag) (id n : Nat) (bars : List Nat) (s : State), s.Quiet → s.PortFree →
    let r : Request := .defineBlock id n bars
    let cells := n * bars.length
    exec (.defineBlock tag id n bars) s = .next (
      if 127 < id then s.replies tag r .badField [0]
      else if (s.block id).state ≠ .empty then s.replies tag r .blockExists [byteOf (blockStateCode (s.block id).state)]
      else if n < 1 ∨ 4096 < n then s.replies tag r .badField [1]
      else if bars.length < 1 ∨ 64 < bars.length then s.replies tag r .badField [2]
      else
        match (List.range bars.length).find? fun i =>
            !(1 ≤ bars.getD i 0 && bars.getD i 0 ≤ 64) || (bars.take i).contains (bars.getD i 0) with
        | some i => s.replies tag r .badField [byteOf (3 + i)]
        | none =>
          if s.store.free < cells then s.replies tag r .storeFull (beBytes 4 s.store.free)
          else
            (({ s with store := { s.store with
                blocks := s.store.blocks.modify id fun _ => ⟨.loading, n, bars, [], none, 0⟩
                free := s.store.free - cells } }).taken tag r).answered tag r .ok
              (beBytes 4 cells ++ beBytes 4 (s.store.free - cells)))

/-- BLOCK_DATA accepted (R38, R39): the cells are stored behind those already there, and the reply gives the new next index and the
cells still expected; the last cell makes the block CHECKING, puts it at the tail of the check queue, and starts the engine when the
queue was empty (R40; the clock: log 1). Refused, it has the result and payload of the first case of R38 that applies, and changes
nothing but the link. -/
def Obligations.BlockDataStoresTheCells : Prop :=
  (∀ (tag : Tag) (id : Nat) (cells : List Cell) (s : State), s.Quiet → s.PortFree → id ≤ 127 →
      1 ≤ cells.length → cells.length ≤ 96 → (s.block id).state = .loading →
      (s.block id).cells.length + cells.length ≤ cellCount (s.block id) →
      (∀ c ∈ cells, (c.front ≤ 63 ∧ c.back ≤ 63) ∨ (c.front = 255 ∧ c.back = 255)) → s.store.blocks.length = 128 →
      let b := s.block id
      let next := b.cells.length + cells.length
      let r : Request := .blockData id b.cells.length cells
      exec (.blockData tag id b.cells.length cells) s = .next
        (({ s with store :=
            if next = cellCount b then
              { s.store with
                blocks := s.store.blocks.set id { b with state := .checking, cells := b.cells ++ cells }
                checkQueue := s.store.checkQueue ++ [id]
                checkFrom := if s.store.checkQueue = [] then s.now else s.store.checkFrom }
            else { s.store with blocks := s.store.blocks.set id { b with cells := b.cells ++ cells } } }.taken tag r).answered
          tag r .ok (beBytes 4 next ++ beBytes 4 (cellCount b - next)))) ∧
  (∀ (tag : Tag) (id first : Nat) (cells : List Cell) (s : State), s.Quiet → s.PortFree →
      let b := s.block id
      let count := b.courses * b.bars.length
      let valid (c : Cell) : Prop := (c.front ≤ 63 ∧ c.back ≤ 63) ∨ (c.front = 255 ∧ c.back = 255)
      let refused (result : Result) (payload : List Byte) : Prop :=
        exec (.blockData tag id first cells) s = .next (s.replies tag (.blockData id first cells) result payload)
      (127 < id → refused .badField [0]) ∧
      (id ≤ 127 → cells.length = 0 ∨ 96 < cells.length → refused .badLength []) ∧
      (id ≤ 127 → 1 ≤ cells.length → cells.length ≤ 96 →
        (b.state = .empty → refused .noSuchBlock []) ∧
        (b.state = .checking → refused .wrongState [2]) ∧
        (b.state = .ready → refused .wrongState [3]) ∧
        (b.state = .loading → first ≠ b.cells.length → refused .outOfOrder (beBytes 4 b.cells.length)) ∧
        (b.state = .loading → first = b.cells.length → count < first + cells.length →
          refused .badLength (beBytes 4 (count - b.cells.length))) ∧
        (∀ i c, b.state = .loading → first = b.cells.length → first + cells.length ≤ count → cells[i]? = some c → ¬valid c →
          (∀ j x, j < i → cells[j]? = some x → valid x) → refused .badCell [byteOf i])))

/-- A store request that is not accepted changes nothing but the link (R36, R38, R45, R47): whatever the request, an answer
other than OK leaves the store and every other block of the part as it was. -/
def Obligations.RefusedStoreRequestsChangeNothing : Prop :=
  ∀ (s : State) (id n : Nat) (bars : List Nat) (cells : List Cell) (r : Request),
    (r = .defineBlock id n bars ∨ r = .blockData id n cells ∨ r = .dropBlock id ∨ r = .readBlockStart id n ∨
      r = .blockInfo id ∨ r = .readBlockNext) →
    (s.handle r).2.result ≠ .ok → (s.handle r).1 = s

/-- DROP_BLOCK (R45): judged by its table; accepted, the entry is EMPTY, its cells are free again, it has left the check
queue (from the head the engine starts on the next block now), and a readback cursor in it is cleared. -/
def Obligations.DropBlockFreesTheEntry : Prop :=
  ∀ (tag : Tag) (id : Nat) (s : State), s.Quiet → s.PortFree →
    let r : Request := .dropBlock id
    let free := s.store.free + cellCount (s.block id)
    (127 < id → exec (.dropBlock tag id) s = .next (s.replies tag r .badField [0])) ∧
    (id ≤ 127 → (s.block id).state = .empty → exec (.dropBlock tag id) s = .next (s.replies tag r .noSuchBlock [])) ∧
    (id ≤ 127 → (s.block id).state ≠ .empty → 0 < (s.block id).pins →
      exec (.dropBlock tag id) s = .next (s.replies tag r .blockInUse [byteOf (s.block id).pins])) ∧
    (id ≤ 127 → (s.block id).state ≠ .empty → (s.block id).pins = 0 →
      exec (.dropBlock tag id) s = .next
        (({ s with store :=
            { blocks := s.store.blocks.modify id fun _ => Block.vacant
              free := free
              checkQueue :=
                if s.store.checkQueue.head? = some id then s.store.checkQueue.tail
                else s.store.checkQueue.filter (· != id)
              checkFrom := if s.store.checkQueue.head? = some id then s.now else s.store.checkFrom
              readCursor := s.store.readCursor.filter fun c => c.block != id } }.taken tag r).answered
          tag r .ok (beBytes 4 free)))

/-- CHECK_COMPLETE (R40 to R42): not before n / 16 us, rounded up, have passed since the engine started, the head block is
READY with the digest of its cells, the engine starts on the next, and BLOCK_READY is offered with tag 0 (the clock: log 1).
With an empty queue nothing happens (log 7). -/
def Obligations.CheckCompleteMakesTheBlockReady : Prop :=
  ∀ s : State, s.Quiet →
    (s.store.checkQueue = [] → exec .checkComplete s = .next s) ∧
    (∀ id rest, s.store.checkQueue = id :: rest →
      let b := s.block id
      let now := max s.now (s.store.checkFrom + (cellCount b + 15) / 16)
      exec .checkComplete s = .next
        { s with
          now := now
          store := { s.store with
            blocks := s.store.blocks.modify id fun b' => { b' with state := .ready, digest := some (digestOf b.cells) }
            checkQueue := rest, checkFrom := now }
          link := s.link.offer ⟨.blockReady (digestOf b.cells) b.courses (cellCount b), 0, id, 0, s.tracker.angle⟩ })

/-- The CRC of the part (R41): the register starts at 0xFFFF, and a bit that differs from its top bit combines 0x1021 into
it after the shift; the manual's three examples. -/
def Obligations.CrcFollowsItsPolynomial : Prop :=
  crc [] = 0xFFFF#16 ∧
  (∀ (bs : List Byte) (b : Byte), crc (bs ++ [b]) =
    [b.getLsbD 7, b.getLsbD 6, b.getLsbD 5, b.getLsbD 4, b.getLsbD 3, b.getLsbD 2, b.getLsbD 1, b.getLsbD 0].foldl
      (fun (r : Crc) bit => if r.getLsbD 15 = bit then r <<< 1 else (r <<< 1) ^^^ 0x1021#16) (crc bs)) ∧
  (∀ cs : List Cell, digestOf cs = crc (cs.flatMap fun c => [byteOf c.front, byteOf c.back])) ∧
  crc [0x31, 0x32, 0x33, 0x34, 0x35, 0x36, 0x37, 0x38, 0x39] = 0x29B1#16 ∧
  digestOf [⟨0, 0⟩] = 0x1D0F#16 ∧ digestOf [⟨255, 255⟩] = 0x0000#16

/-- BLOCK_INFO and the two readback requests (R46 to R48): the information of an id in the table, item by item in the layout of 10,
section 10.7; the cursor set at the first cell of the course, or at the end beyond the last; then up to 96 cells from the cursor,
which moves past them, with the END mark only when none are left. An id above 127, and for READ_BLOCK_START an entry that is EMPTY or
not READY, is refused, and READ_BLOCK_NEXT without a cursor. -/
def Obligations.ReadbackReturnsTheCells : Prop :=
  (∀ (tag : Tag) (id course : Nat) (s : State), s.Quiet → s.PortFree →
      let at_ (c : Option ReadCursor) : State := { s with store := { s.store with readCursor := c } }
      (id ≤ 127 → exec (.blockInfo tag id) s = .next (s.replies tag (.blockInfo id) .ok (s.blockInfoBytes id))) ∧
      (id ≤ 127 → (s.block id).state = .ready →
        let i := if course < (s.block id).courses then course * (s.block id).bars.length else cellCount (s.block id)
        exec (.readBlockStart tag id course) s = .next
          (((at_ (some ⟨id, i⟩)).taken tag (.readBlockStart id course)).answered tag (.readBlockStart id course) .ok
            (beBytes 4 i ++ beBytes 4 (cellCount (s.block id)) ++ beBytes 2 ((s.block id).digest.getD 0).toNat))) ∧
      (s.store.readCursor = none →
        exec (.readBlockNext tag) s = .next (s.replies tag .readBlockNext .noReadCursor [])) ∧
      (∀ i, s.store.readCursor = some ⟨id, i⟩ → (s.block id).cells.length = cellCount (s.block id) →
        let k := min 96 (cellCount (s.block id) - i)
        exec (.readBlockNext tag) s = .next
          (((at_ (some ⟨id, i + k⟩)).taken tag .readBlockNext).answered tag .readBlockNext .ok
            (beBytes 4 i ++ [if cellCount (s.block id) ≤ i then 1 else 0] ++ beBytes 1 k ++
              cellBytes (((s.block id).cells.drop i).take k))))) ∧
  (∀ (tag : Tag) (id course : Nat) (s : State), s.Quiet → s.PortFree →
      let b := s.block id
      let two (x : Nat) : List Byte := [byteOf (x / 256), byteOf x]
      let four (x : Nat) : List Byte := two (x / 65536) ++ two x
      (∀ k : Nat, id ≤ 127 →
        (b.state = .checking ∧ s.store.checkQueue[k]? = some id ∧ id ∉ s.store.checkQueue.take k) ∨
          (b.state ≠ .checking ∧ k = 0) →
        exec (.blockInfo tag id) s = .next (s.replies tag (.blockInfo id) .ok
          ([(match b.state with | .empty => 0 | .loading => 1 | .checking => 2 | .ready => 3 : Byte)] ++ two b.courses ++
            [byteOf b.bars.length] ++ b.bars.map byteOf ++ four (b.courses * b.bars.length) ++ four b.cells.length ++
            [byteOf k] ++ (match b.digest with | some d => 1 :: two d.toNat | none => [0, 0, 0]) ++ [byteOf b.pins] ++
            four s.store.free))) ∧
      (127 < id →
        exec (.blockInfo tag id) s = .next (s.replies tag (.blockInfo id) .badField [0]) ∧
        exec (.readBlockStart tag id course) s = .next (s.replies tag (.readBlockStart id course) .badField [0])) ∧
      (id ≤ 127 → b.state = .empty →
        exec (.readBlockStart tag id course) s = .next (s.replies tag (.readBlockStart id course) .noSuchBlock [])) ∧
      (id ≤ 127 → b.state = .loading ∨ b.state = .checking →
        exec (.readBlockStart tag id course) s = .next (s.replies tag (.readBlockStart id course) .blockNotReady [])))

/-! ### The sequence player (04) -/

/-- WRITE_SEQUENCE accepted (R52, R53; 03, R43): the table is PENDING in place of the one before, each distinct block loses a pin for
the old and gains one for the new table, and the courses of one pass are replied. Refused (R52): for the step count, then for the first
bad field in index order, then for the first step whose block is not READY. -/
def Obligations.WriteSequenceReplacesPending : Prop :=
  (∀ (tag : Tag) (steps : List SeqStep) (s : State), s.Quiet → s.PortFree → 1 ≤ steps.length → steps.length ≤ 64 →
      (∀ t ∈ steps, t.block ≤ 127 ∧ 1 ≤ t.reps ∧ (s.block t.block).state = .ready) → s.store.blocks.length = 128 →
      ∃ t, exec (.writeSequence tag steps) s = .next t ∧ t.player = { s.player with pending := some steps } ∧
        (∀ id, id ≤ 127 → t.block id = { s.block id with
          pins := (s.block id).pins - (if (s.player.pending.getD []).any (fun x => x.block == id) then 1 else 0) +
            (if steps.any (fun x => x.block == id) then 1 else 0) }) ∧
        t.store = { s.store with blocks := t.store.blocks } ∧
        { t with player := s.player, store := s.store, link := s.link } = s ∧
        (∃ room flags, t.link.tx = some ⟨tag, 0xB0, [0x00, room, flags, 0] ++
          beBytes 4 (steps.map fun x => x.reps * (s.block x.block).courses).sum⟩)) ∧
  (∀ (tag : Tag) (steps : List SeqStep) (s : State), s.Quiet → s.PortFree →
      let good (t : SeqStep) : Prop := t.block ≤ 127 ∧ 1 ≤ t.reps
      let refused (result : Result) (payload : List Byte) : Prop :=
        exec (.writeSequence tag steps) s = .next (s.replies tag (.writeSequence steps) result payload)
      (steps.length = 0 ∨ 64 < steps.length → refused .badField [0]) ∧
      (1 ≤ steps.length → steps.length ≤ 64 →
        (∀ i t, steps[i]? = some t → (∀ j x, j < i → steps[j]? = some x → good x) →
          (127 < t.block → refused .badField [byteOf (1 + 2 * i)]) ∧
          (t.block ≤ 127 → t.reps = 0 → refused .badField [byteOf (2 + 2 * i)])) ∧
        (∀ i t, (∀ x ∈ steps, good x) → steps[i]? = some t → (s.block t.block).state ≠ .ready →
          (∀ j x, j < i → steps[j]? = some x → (s.block x.block).state = .ready) →
          refused .blockNotReady [byteOf i])))

/-- SWITCH_SEQUENCE (R54 to R57, R60). NOW: PENDING is ACTIVE, the old ACTIVE loses its pins, the cursor and the pass count are 0, the
feed-stopped flag is clear, SEQUENCE_SWITCHED carries the old pass count and the tag of the next course, and the player feeds where
it may. Timed, with an ACTIVE table: the switch is recorded in place of one before it, and the reply says that it has not taken effect;
with none it takes effect at once, in any run state, and what it brings about at the run controller comes before the reply (log 25).
Refused: for the mode, with nothing PENDING, and NOW outside STANDBY and HOLD, while CHANGING and during a locate. -/
def Obligations.SwitchesTakePendingInTheirTime : Prop :=
  (∀ (tag : Tag) (table : List SeqStep) (s : State), s.Quiet → s.PortFree → s.run.state = .standby ∨ s.run.state = .hold →
      s.run.changing = false → s.run.waiting = false → s.player.search = none → s.player.pending = some table →
      let old := if s.player.active.isSome then s.player.pass else 0
      let r : Request := .switchSequence 0
      let switched : State :=
        { (s.taken tag r).unpinOld s.player.active with
          player := { s.player with
            active := some table, pending := none, recorded := none, cursor := ⟨0, 0, 0⟩, pass := 0, feedStopped := false }
          link := (s.taken tag r).link.offer
            ⟨.sequenceSwitched old table.length, 0x00, (table.head?.map SeqStep.block).getD 0, s.player.fed, s.tracker.angle⟩ }
      exec (.switchSequenceNow tag) s = .next (switched.feed.answered tag r .ok ([0x00, 1] ++ tagBytes s.player.fed))) ∧
  (∀ (tag : Tag) (mode : SwitchMode) (s : State), s.Quiet → s.PortFree → mode ≠ .now →
      let r : Request := .switchSequence (modeCode mode)
      (s.player.pending.isSome → s.player.active.isSome →
        exec (.switchSequenceTimed tag (modeCode mode)) s = .next
          (({ s with player := { s.player with recorded := some mode } }.taken tag r).answered tag r .ok
            [byteOf (modeCode mode), 0, 0, 0, 0, 0])) ∧
      (s.player.pending = none →
        exec (.switchSequenceTimed tag (modeCode mode)) s = .next (s.replies tag r .noSequence []))) ∧
  (∀ (tag : Tag) (s : State), s.Quiet → s.PortFree →
      let refused (result : Result) : Prop :=
        exec (.switchSequenceNow tag) s = .next (s.replies tag (.switchSequence 0) result [])
      (∀ mode, 2 < mode →
        exec (.switchSequenceTimed tag mode) s = .next (s.replies tag (.switchSequence mode) .badField [0])) ∧
      exec (.switchSequenceTimed tag 0) s = exec (.switchSequenceNow tag) s ∧
      (s.player.pending = none → refused .noSequence) ∧
      (s.player.pending.isSome = true → s.run.state ≠ .standby → s.run.state ≠ .hold → refused .wrongState) ∧
      (s.player.pending.isSome = true → s.run.state = .standby ∨ s.run.state = .hold →
        s.run.changing = true ∨ s.player.search.isSome = true → refused .busy) ∧
      (∀ (mode : SwitchMode) (table : List SeqStep), mode ≠ .now → s.player.pending = some table → s.player.active = none →
        let r : Request := .switchSequence (modeCode mode)
        let switched : State :=
          { s.taken tag r with
            player := { s.player with
              active := some table, pending := none, recorded := none, cursor := ⟨0, 0, 0⟩, pass := 0 }
            link := (s.taken tag r).link.offer
              ⟨.sequenceSwitched 0 table.length, modeCode mode, (table.head?.map SeqStep.block).getD 0, s.player.fed,
                s.tracker.angle⟩ }
        exec (.switchSequenceTimed tag (modeCode mode)) s = .next
          (switched.feed.settleRun.answered tag r .ok ([byteOf (modeCode mode), 1] ++ tagBytes s.player.fed))))

/-- SET_CURSOR and OPEN_STREAM (04, R64, R65; 05, R75, R84, R86, R87). Accepted, the lists are empty and the permit is 0. SET_CURSOR sets
the cursor, clears the counters and the feed-stopped flag, closes the stream, makes the source PLAYER, and the player feeds where
it may; OPEN_STREAM makes the source STREAM, open with its bars and first tag. Refused, each has the result and payload of the
first case of its table that applies, and changes nothing but the link. -/
def Obligations.ChoosingASourceStartsAfresh : Prop :=
  (∀ (tag : Tag) (c : FeedCursor) (table : List SeqStep) (step : SeqStep) (s : State), s.Quiet → s.PortFree →
      s.run.state = .standby ∨ s.run.state = .hold → s.run.changing = false → s.run.waiting = false → s.PermitSound →
      s.player.search = none → s.player.active = some table → table[c.step]? = some step → c.rep < step.reps →
      c.course < (s.block step.block).courses →
      exec (.setCursor tag c) s = .next
        ((({ s with
            player := { s.player with cursor := c, pass := 0, fed := 0, feedStopped := false }
            lists := Lists.initial
            planner := ⟨0, .none⟩ }.taken tag (.setCursor c)).feed).answered tag (.setCursor c) .ok [])) ∧
  (∀ (tag : Tag) (c : FeedCursor) (s : State), s.Quiet → s.PortFree →
      let refused (result : Result) (payload : List Byte) : Prop :=
        exec (.setCursor tag c) s = .next (s.replies tag (.setCursor c) result payload)
      (s.run.state ≠ .standby → s.run.state ≠ .hold → refused .wrongState []) ∧
      (s.run.state = .standby ∨ s.run.state = .hold →
        (s.run.changing = true ∨ s.player.search.isSome = true → refused .busy []) ∧
        (s.run.changing = false → s.player.search = none →
          (s.player.active = none → refused .noSequence []) ∧
          (∀ table, s.player.active = some table →
            (table.length ≤ c.step → refused .badField [0]) ∧
            (∀ t, table[c.step]? = some t →
              (t.reps ≤ c.rep → refused .badField [1]) ∧
              (c.rep < t.reps → (s.block t.block).courses ≤ c.course → refused .badField [2])))))) ∧
  (∀ (tag first : Tag) (bars : List Nat) (s : State), s.Quiet → s.PortFree →
      s.run.state = .standby ∨ s.run.state = .hold → s.run.changing = false → s.PermitSound →
      1 ≤ bars.length → bars.length ≤ 64 → (∀ b ∈ bars, 1 ≤ b ∧ b ≤ 64 ∧ s.assigned b = true) → bars.Nodup →
      exec (.openStream tag first bars) s = .next
        (({ s with
            lists := { Lists.initial with source := .stream, streamOpen := true, streamBars := bars, expected := some first }
            planner := ⟨0, .none⟩ }.taken tag (.openStream first bars)).answered tag (.openStream first bars) .ok [])) ∧
  (∀ (tag first : Tag) (bars : List Nat) (s : State), s.Quiet → s.PortFree →
      let refused (result : Result) (payload : List Byte) : Prop :=
        exec (.openStream tag first bars) s = .next (s.replies tag (.openStream first bars) result payload)
      let good (i b : Nat) : Prop := 1 ≤ b ∧ b ≤ 64 ∧ b ∉ bars.take i ∧ s.assigned b = true
      (s.run.state ≠ .standby → s.run.state ≠ .hold → refused .wrongState []) ∧
      (s.run.state = .standby ∨ s.run.state = .hold → s.run.changing = true → refused .busy []) ∧
      (s.run.state = .standby ∨ s.run.state = .hold → s.run.changing = false →
        (bars.length < 1 ∨ 64 < bars.length → refused .badField [1]) ∧
        (∀ i b, 1 ≤ bars.length → bars.length ≤ 64 → bars[i]? = some b → ¬good i b →
          (∀ j x, j < i → bars[j]? = some x → good j x) → refused .badField [byteOf (2 + i)])))

/-- LOCATE and LOCATE_DONE (R66 to R69): accepted, the search is in flight from that moment and nothing else changes; refused, it has
the first case of R66 that applies, its fields judged in index order. The search ends no earlier than its time (the clock: log 1),
LOCATE_DONE says what it found and how many courses it visited, and the player may feed again. It goes through the table in feed
order from its first place with its stride, and ends at the first course in which every target holds (R67). With no search in flight
nothing happens (log 7). -/
def Obligations.LocateSearchesInItsTime : Prop :=
  (∀ (tag : Tag) (c : FeedCursor) (stride : Nat) (ts : List LocateTarget) (table : List SeqStep) (step : SeqStep) (s : State),
      s.Quiet → s.PortFree → s.run.state = .standby ∨ s.run.state = .hold → s.player.search = none →
      s.player.active = some table → table[c.step]? = some step → c.rep < step.reps →
      c.course < (s.block step.block).courses → 1 ≤ stride → stride ≤ 8 → 1 ≤ ts.length → ts.length ≤ 16 →
      (∀ t ∈ ts, 1 ≤ t.bar ∧ t.bar ≤ 64 ∧ (t.front ≤ 63 ∨ t.front = 255)) → (ts.map LocateTarget.bar).Nodup →
      exec (.locate tag c stride ts) s = .next
        (({ s with player := { s.player with search := some ⟨c, stride, ts, s.now⟩ } }.taken tag (.locate c stride ts)).answered
          tag (.locate c stride ts) .ok [])) ∧
  (∀ (tag : Tag) (c : FeedCursor) (stride : Nat) (ts : List LocateTarget) (s : State), s.Quiet → s.PortFree →
      let refused (result : Result) (payload : List Byte) : Prop :=
        exec (.locate tag c stride ts) s = .next (s.replies tag (.locate c stride ts) result payload)
      let bar (i : Nat) (t : LocateTarget) : Prop := 1 ≤ t.bar ∧ t.bar ≤ 64 ∧ ∀ x ∈ ts.take i, x.bar ≠ t.bar
      let front (t : LocateTarget) : Prop := t.front ≤ 63 ∨ t.front = 255
      (s.run.state ≠ .standby → s.run.state ≠ .hold → refused .wrongState []) ∧
      (s.run.state = .standby ∨ s.run.state = .hold →
        (s.player.search.isSome = true → refused .busy []) ∧
        (s.player.search = none → s.player.active = none → refused .noSequence []) ∧
        (∀ table, s.player.search = none → s.player.active = some table →
          (table.length ≤ c.step → refused .badField [0]) ∧
          (∀ t, table[c.step]? = some t →
            (t.reps ≤ c.rep → refused .badField [1]) ∧
            (c.rep < t.reps → (s.block t.block).courses ≤ c.course → refused .badField [2]) ∧
            (c.rep < t.reps → c.course < (s.block t.block).courses →
              (stride < 1 ∨ 8 < stride → refused .badField [3]) ∧
              (1 ≤ stride → stride ≤ 8 →
                (ts.length < 1 ∨ 16 < ts.length → refused .badField [4]) ∧
                (∀ i x, 1 ≤ ts.length → ts.length ≤ 16 → ts[i]? = some x →
                  (∀ j y, j < i → ts[j]? = some y → bar j y ∧ front y) →
                  (¬bar i x → refused .badField [byteOf (5 + 2 * i)]) ∧
                  (bar i x → ¬front x → refused .badField [byteOf (6 + 2 * i)])))))))) ∧
  (∀ s : State, s.Quiet →
      (s.player.search = none → exec .locateDone s = .next s) ∧
      (∀ q, s.player.search = some q →
        let f := s.finding q
        exec .locateDone s = .next
          ({ s with
            now := max s.now (q.startedAt + (f.visited + 7) / 8)
            player := { s.player with search := none }
            link := s.link.offer (match f.place with
              | some (place, id) => ⟨.locateDone place f.visited, 0x01, id, 0, s.tracker.angle⟩
              | none => ⟨.locateDone ⟨0, 0, 0⟩ f.visited, 0x00, 0, 0, s.tracker.angle⟩) }.feed))) ∧
  (∀ (s : State) (q : Search) (table : List SeqStep) (start block : Nat), s.player.active = some table → 1 ≤ q.stride →
      let order : List (FeedCursor × Nat) := table.zipIdx.flatMap fun x =>
        (List.range x.1.reps).flatMap fun rep =>
          (List.range (s.block x.1.block).courses).map fun course => (⟨x.2, rep, course⟩, x.1.block)
      let cell (id course bar : Nat) : Option Cell :=
        ((s.block id).bars.idxOf? bar).bind fun i => (s.block id).cells[course * (s.block id).bars.length + i]?
      let holds (p : FeedCursor × Nat) (t : LocateTarget) : Prop :=
        t.front = 255 ∨ ∃ c, cell p.2 p.1.course t.bar = some c ∧ ¬(c.front = 255 ∧ c.back = 255) ∧ c.front = t.front
      let visited (k : Nat) : Option (FeedCursor × Nat) := order[start + k * q.stride]?
      let missesBefore (k : Nat) : Prop := ∀ j, j < k → ∃ p, visited j = some p ∧ ∃ t ∈ q.targets, ¬holds p t
      order[start]? = some (q.start, block) →
      (∀ k p, missesBefore k → visited k = some p → (∀ t ∈ q.targets, holds p t) → s.finding q = ⟨some p, k + 1⟩) ∧
      (∀ k, missesBefore k → visited k = none → s.finding q = ⟨none, k⟩))

/-- The player feeds for as long as its conditions hold, and not at all in STANDBY, with the source STREAM, with the feed stopped,
during a locate or with a full queue (R60). The tables are not empty and the cursor's step exists, as R51 and R58 have it. -/
def Obligations.FeedingGoesOnWhileItMay : Prop :=
  (∀ s : State, s.ListsSound → (∀ table, s.player.active = some table → s.player.cursor.step < table.length) →
      (∀ table, s.player.pending = some table → table ≠ []) → s.feed.canFeed = false) ∧
  (∀ s : State, (s.run.state = .standby ∨ s.lists.source = .stream ∨ s.player.feedStopped = true ∨
        s.player.search.isSome = true ∨ s.player.active = none ∨
        (s.lists.current.isSome = true ∧ 32 ≤ s.lists.queue.length)) → s.feed = s)

/-- One feed (R58, R59, R61, R62). A cell of an assigned bar beyond its travel stops the feed: the flag is set and FEED_STOPPED
offered for the lowest such bar, and nothing else changes. Otherwise the record has the feed counter as its tag, the cursor and pass
as its origin, no cap, and for each assigned bar in rising order its cell's pair, or a rest resolved (05, R72); it joins the lists
(05, R74; 06, R102, R104) or, in empty lists, becomes current; the counter rises by 1 and the cursor goes on. A recorded switch takes
effect at its boundary, after the advance, and waits at any other. -/
def Obligations.FedCourseBecomesARecord : Prop :=
  (∀ (s : State) (b : Nat), s.restIndex b =
      ((s.lists.forward.getLast?.bind (·.lap b)).map BarLap.back).getD (s.channel b).lastTarget) ∧
  ∀ (s : State) (table : List SeqStep) (step : SeqStep), s.player.active = some table →
    table[s.player.cursor.step]? = some step →
    let p := s.player
    let block := s.block step.block
    let cell (b : Nat) : Option Cell :=
      (block.bars.idxOf? b).bind fun i => block.cells[p.cursor.course * block.bars.length + i]?
    let rest (c : Cell) : Prop := c.front = 255 ∧ c.back = 255
    let beyond (b : Nat) (c : Cell) : Prop := ¬rest c ∧ ((s.profile b).travel < c.front ∨ (s.profile b).travel < c.back)
    let fits : Prop := ∀ b ∈ s.assignedBars, ∀ c, cell b = some c → ¬beyond b c
    let stepEnd : Prop := block.courses ≤ p.cursor.course + 1 ∧ step.reps ≤ p.cursor.rep + 1
    let passEnd : Prop := stepEnd ∧ table.length ≤ p.cursor.step + 1
    let t := s.feedOne
    (∀ b c, b ∈ s.assignedBars → cell b = some c → beyond b c →
      (∀ x ∈ s.assignedBars, x < b → ∀ c', cell x = some c' → ¬beyond x c') →
      t = { s with
        player := { p with feedStopped := true }
        link := s.link.offer ⟨.feedStopped p.cursor step.block,
          if (s.profile b).travel < c.front then c.front else c.back, b, p.fed, s.tracker.angle⟩ }) ∧
    (fits → p.recorded = none →
      (∃ r, r.tag = p.fed ∧ r.origin = .player p.cursor p.pass ∧ r.cap = none ∧ r.endMark = false ∧ r.ceiling = none ∧
        r.infeasible = false ∧ r.laps.map BarLap.bar = s.assignedBars ∧
        (∀ lap ∈ r.laps,
          (∀ c, cell lap.bar = some c → ¬rest c → lap.front = c.front ∧ lap.back = c.back) ∧
          (cell lap.bar = none ∨ (∃ c, cell lap.bar = some c ∧ rest c) →
            lap.front = s.restIndex lap.bar ∧ lap.back = s.restIndex lap.bar)) ∧
        (s.lists.forward ≠ [] → s.Joined t r) ∧ (s.lists.forward = [] → s.BecomesCurrent t r) ∧
        t.lists.expected = s.lists.expected) ∧
      (∃ cursor : FeedCursor, t.player = { p with cursor := cursor, fed := p.fed + 1, pass := t.player.pass } ∧
        (p.cursor.course + 1 < block.courses → cursor = ⟨p.cursor.step, p.cursor.rep, p.cursor.course + 1⟩) ∧
        (block.courses ≤ p.cursor.course + 1 → p.cursor.rep + 1 < step.reps →
          cursor = ⟨p.cursor.step, p.cursor.rep + 1, 0⟩) ∧
        (stepEnd → p.cursor.step + 1 < table.length → cursor = ⟨p.cursor.step + 1, 0, 0⟩) ∧
        (passEnd → cursor = ⟨0, 0, 0⟩ ∧ t.player.pass = p.pass + 1) ∧ (¬passEnd → t.player.pass = p.pass)) ∧
      { t with
        player := p, lists := s.lists, planner := s.planner, run := s.run, permitLine := s.permitLine, link := s.link } = s) ∧
    (∀ mode new, fits → p.recorded = some mode → p.pending = some new → s.store.blocks.length = 128 →
      let fed := State.feedOne { s with player := { p with recorded := none } }
      let due : Prop := (mode = .atStepEnd ∧ stepEnd) ∨ (mode = .atPassEnd ∧ passEnd)
      (¬due → t = { fed with player := { fed.player with recorded := some mode } }) ∧
      (due →
        t = { fed with
          store := { fed.store with blocks := t.store.blocks }
          player := { fed.player with active := some new, pending := none, cursor := ⟨0, 0, 0⟩, pass := 0 }
          link := fed.link.offer ⟨.sequenceSwitched fed.player.pass new.length,
            match mode with | .now => 0x00 | .atStepEnd => 0x01 | .atPassEnd => 0x02,
            (new.head?.map SeqStep.block).getD 0, fed.player.fed, s.tracker.angle⟩ } ∧
        ∀ id, id ≤ 127 → t.block id = { fed.block id with
          pins := (fed.block id).pins - (if table.any (fun x => x.block == id) then 1 else 0) }))

/-! ### Course lists and streaming (05) -/

/-- COURSES judged as a whole (R88): in the order of its table; taken, the records go in turn, what they bring about at the run
controller comes before the reply (the model's choice, log 25), and the reply carries the records accepted and, with a failure, its
place, the expected tag and the bar (R89, R90). -/
def Obligations.CoursesAreTakenInTurn : Prop :=
  ∀ (tag : Tag) (n : Nat) (bytes : List Byte) (s : State), s.Quiet → s.PortFree →
    let r : Request := .courses n bytes
    let size := 6 + 2 * s.lists.streamBars.length
    ((n = 0 ∨ 4 < n) → exec (.courses tag n bytes) s = .next (s.replies tag r .badLength [])) ∧
    (1 ≤ n → n ≤ 4 → s.run.state = .standby → exec (.courses tag n bytes) s = .next (s.replies tag r .wrongState [])) ∧
    (1 ≤ n → n ≤ 4 → s.run.state ≠ .standby → s.lists.streamOpen = false →
      exec (.courses tag n bytes) s = .next (s.replies tag r .noStream [])) ∧
    (1 ≤ n → n ≤ 4 → s.run.state ≠ .standby → s.lists.streamOpen = true → bytes.length ≠ n * size →
      exec (.courses tag n bytes) s = .next (s.replies tag r .badLength [])) ∧
    (1 ≤ n → n ≤ 4 → s.run.state ≠ .standby → s.lists.streamOpen = true → bytes.length = n * size →
      ∀ t taking, takeRecords 0 (recordsOf size n bytes) (s.taken tag r) = (t, taking) →
        exec (.courses tag n bytes) s = .next (match taking.failure with
          | none => t.settleRun.answered tag r .ok [byteOf taking.accepted]
          | some f => t.settleRun.answered tag r f.result ([byteOf taking.accepted, byteOf taking.accepted] ++
              tagBytes (t.lists.expected.getD 0) ++ [byteOf f.bar])))

/-- The records of a COURSES are taken in turn until the first that fails, which decides, and no later one is judged; a record fails
for a full queue, then a tag that is not the expected one, then the first cell in bar-list order that is invalid or out of its
bar's travel, and passes otherwise (R89). Taken behind a current record, it is the last of the queue with its tag, no cap for a cap
field of 0 and at most 3,000 for any other, and a lap pair for each assigned bar; the record before it has its ceiling (06, R102,
R104), and in empty lists the record becomes current (R74); the expected tag rises by 1 (R71, R72, R89). -/
def Obligations.RecordsAreTakenUntilOneFails : Prop :=
  (∀ (rs : List SentRecord) (s t : State) (taking : Taking), takeRecords 0 rs s = (t, taking) →
      taking.accepted ≤ rs.length ∧ t = (rs.take taking.accepted).foldl State.takeRecord s ∧
      (∀ i, i < taking.accepted → ∃ r ∈ rs[i]?, ((rs.take i).foldl State.takeRecord s).recordFailure r = none) ∧
      (taking.failure = none ↔ taking.accepted = rs.length) ∧
      (∀ f, taking.failure = some f → ∃ r ∈ rs[taking.accepted]?, t.recordFailure r = some f)) ∧
  (∀ (s : State) (r : SentRecord),
      (s.lists.current.isSome = true → 32 ≤ s.lists.queue.length → s.recordFailure r = some ⟨.queueFull, 0⟩) ∧
      ((s.lists.current = none ∨ s.lists.queue.length < 32) →
        (s.lists.expected ≠ some r.tag → s.recordFailure r = some ⟨.tagGap, 0⟩) ∧
        (s.lists.expected = some r.tag →
          (∀ (i b : Nat) (c : Cell), s.lists.streamBars[i]? = some b → r.cells[i]? = some c →
            (∀ j, j < i → ∀ (b' : Nat) (c' : Cell), s.lists.streamBars[j]? = some b' → r.cells[j]? = some c' →
              (c'.front = 255 ∧ c'.back = 255) ∨ (c'.front ≤ 63 ∧ c'.back ≤ 63 ∧
                c'.front ≤ (s.profile b').travel ∧ c'.back ≤ (s.profile b').travel)) →
            ¬(c.front = 255 ∧ c.back = 255) →
            (¬(c.front ≤ 63 ∧ c.back ≤ 63) → s.recordFailure r = some ⟨.badCell, b⟩) ∧
            (c.front ≤ 63 → c.back ≤ 63 → ((s.profile b).travel < c.front ∨ (s.profile b).travel < c.back) →
              s.recordFailure r = some ⟨.badPosition, b⟩))))) ∧
  (∀ (s : State) (r : SentRecord),
      (s.lists.current = none ∨ s.lists.queue.length < 32) → s.lists.expected = some r.tag →
      (∀ (i b : Nat) (c : Cell), s.lists.streamBars[i]? = some b → r.cells[i]? = some c →
        (c.front = 255 ∧ c.back = 255) ∨ (c.front ≤ 63 ∧ c.back ≤ 63 ∧
          c.front ≤ (s.profile b).travel ∧ c.back ≤ (s.profile b).travel)) →
      s.recordFailure r = none) ∧
  (∀ (s : State) (r : SentRecord),
      let t := s.takeRecord r
      t.lists.expected = some (r.tag + 1) ∧
      ∃ x, x.tag = r.tag ∧ x.origin = .stream ∧
        x.cap = (if r.cap = 0 then none else some (min r.cap 3000)) ∧ x.endMark = false ∧ x.ceiling = none ∧
        x.infeasible = false ∧ x.laps.map BarLap.bar = s.assignedBars ∧
        (∀ lap ∈ x.laps, match (s.lists.streamBars.idxOf? lap.bar).bind (r.cells[·]?) with
          | some cell => if cell.front = 255 ∧ cell.back = 255
              then lap.front = s.restIndex lap.bar ∧ lap.back = s.restIndex lap.bar
              else lap.front = cell.front ∧ lap.back = cell.back
          | none => lap.front = s.restIndex lap.bar ∧ lap.back = s.restIndex lap.bar) ∧
        (s.lists.forward ≠ [] → s.Joined t x) ∧ (s.lists.forward = [] → s.BecomesCurrent t x))

/-- END_STREAM (R91, R82): the record that stands last in knit order carries the end mark, the stream is closed with its bars
and expected tag kept, end-seen is set, and in RUN the stopped check is made; the marked record's tag is replied. Refused in STANDBY,
with no stream open, and with empty lists, in that order. -/
def Obligations.EndStreamMarksTheLastRecord : Prop :=
  (∀ (tag : Tag) (r : CourseRecord) (s : State), s.Quiet → s.PortFree → s.run.state ≠ .standby →
      s.lists.streamOpen = true → s.lists.last = some r →
      let ended := s.lists.modifyLastRecord fun x => { x with endMark := true }
      ended.last = some { r with endMark := true } ∧
      exec (.endStream tag) s = .next
        ((({ s with lists := { ended with streamOpen := false, endSeen := true } }.taken tag .endStream).stoppedCheck).answered
          tag .endStream .ok (tagBytes r.tag))) ∧
  (∀ (tag : Tag) (s : State), s.Quiet → s.PortFree →
      let refused (result : Result) : Prop := exec (.endStream tag) s = .next (s.replies tag .endStream result [])
      (s.run.state = .standby → refused .wrongState) ∧
      (s.run.state ≠ .standby → s.lists.streamOpen = false → refused .noStream) ∧
      (s.run.state ≠ .standby → s.lists.streamOpen = true → s.lists.current = none → s.lists.after = [] →
        refused .wrongState))

/-- FLUSH_COURSES (R92, R93, R103): refused with BUSY while CHANGING and SHAFT_MOVING unless STOPPED; accepted, the lists are flushed,
the permit is recomputed, the stopped check is made, the player feeds (in that order, log 14), and the number of records removed is
replied. Of the records after current a bound successor alone stays; the record left last loses its ceiling when records were
removed; a stream's expected tag follows it, and a stream closed by END_STREAM opens again when its marked record went. -/
def Obligations.FlushLeavesABoundSuccessor : Prop :=
  (∀ (tag : Tag) (s : State), s.Quiet → s.PortFree →
      (s.run.changing = true → exec (.flushCourses tag) s = .next (s.replies tag .flushCourses .busy [])) ∧
      (s.run.changing = false → s.tracker.stopped = false →
        exec (.flushCourses tag) s = .next (s.replies tag .flushCourses .shaftMoving [])) ∧
      (s.run.changing = false → s.tracker.stopped = true → s.run.waiting = false →
        exec (.flushCourses tag) s = .next
          ((({ s with lists := s.lists.flush }.taken tag .flushCourses).replan.stoppedCheck.feed).answered tag .flushCourses .ok
            [byteOf (s.lists.after.length - s.lists.flush.after.length)]))) ∧
  (∀ (l : Lists) (c : CourseRecord), l.current = some c →
      l.flush.history = l.history ∧ l.flush.bound = l.bound ∧
      l.flush.current.map CourseRecord.tag = some c.tag ∧
      l.flush.after.map CourseRecord.tag = ((if l.bound then l.after.take 1 else []).map CourseRecord.tag) ∧
      (l.after.length ≤ (if l.bound then 1 else 0) → l.flush = l) ∧
      ((if l.bound then 1 else 0) < l.after.length →
        (∃ r, l.flush.last = some r ∧ r.ceiling = none ∧ (l.source = .stream → l.flush.expected = some (r.tag + 1))) ∧
        (l.source = .stream → (∃ r ∈ l.after.drop (if l.bound then 1 else 0), r.endMark = true) →
          l.flush.endSeen = false ∧ l.flush.streamOpen = (l.streamOpen || l.endSeen))))

/-- A forward crossing at the lists in RUN or HALT (R76, R79, R83): counted while the shaft is ahead of or behind the lists; otherwise
a bound successor becomes current, with the old current at the end of a history of 16 at most; otherwise the ahead count is 1, and
past the end RUN_END, else UNDERRUN, is reported unless it has been for this record. The permit is recomputed. -/
def Obligations.ForwardCrossingMovesTheLists : Prop :=
  (∀ (h : List CourseRecord) (c : CourseRecord), joinHistory h c = (h ++ [c]).drop (h.length + 1 - 16)) ∧
  ∀ s : State,
    let l := s.lists
    let t := s.crossForward
    let unreported : Prop := t.link = s.link ∧ t.run.state = s.run.state ∧ t.channels = s.channels
    t.planner = planOf t.machine t.lists ∧
    (0 < l.ahead → t.lists = { l with ahead := min 65535 (l.ahead + 1) } ∧ unreported) ∧
    (l.ahead = 0 → 0 < l.behind → t.lists = { l with behind := l.behind - 1 } ∧ unreported) ∧
    (∀ c n, l.ahead = 0 → l.behind = 0 → l.current = some c → l.successor = some n → l.bound = true →
      t.lists = { l with
        current := some n
        history := if l.replay = [] then joinHistory l.history c else l.history ++ [c]
        replay := l.replay.tail
        queue := if l.replay = [] then l.queue.tail else l.queue
        bound := false, underrunMark := false, starvedMark := false, endMark := false } ∧ unreported) ∧
    (l.ahead = 0 → l.behind = 0 → (l.current = none ∨ l.successor = none ∨ l.bound = false) →
      t.lists.ahead = 1 ∧ t.lists.current = l.current ∧ t.lists.after = l.after ∧ t.lists.history = l.history) ∧
    (∀ c, l.ahead = 0 → l.behind = 0 → l.current = some c → (l.successor = none ∨ l.bound = false) →
      (c.endMark = true → l.endMark = true → t.lists = { l with ahead := 1 } ∧ unreported) ∧
      (c.endMark = true → l.endMark = false →
        t.lists = { l with ahead := 1, endMark := true } ∧ t.run.state = s.run.state ∧
        t.link = s.link.offer ⟨.runEnd l.source l.history.length, 0x01, 0, c.tag, s.tracker.angle⟩) ∧
      (c.endMark = false → l.underrunMark = true → t.lists = { l with ahead := 1 } ∧ unreported) ∧
      (c.endMark = false → l.underrunMark = false →
        t.lists = { l with ahead := 1, underrunMark := true } ∧
        (s.run.state = .run → t.run.state = .halt ∧
          t.run.halt = some ⟨.underrun, 0, 0, c.tag, s.tracker.angle, s.tracker.speed⟩ ∧
          t.link = s.link.offer ⟨.halted 0 s.tracker.speed 0 s.run.requested, 0x01, 0, c.tag, s.tracker.angle⟩) ∧
        (s.run.state = .halt → t.run.state = .halt ∧ t.run.halt = s.run.halt ∧
          t.link = s.link.offer ⟨.furtherFault 0 s.tracker.speed 0 s.run.requested, 0x01, 0, c.tag, s.tracker.angle⟩)))

/-- A backward crossing at the lists in RUN or HALT (R77): counted down while ahead; otherwise the newest history record becomes
current with the old current bound on top of the replay stack; with no history the behind count rises, and the first time
REVERSE_LIMIT is reported, which halts a machine in RUN. -/
def Obligations.BackwardCrossingRetracesTheLists : Prop :=
  ∀ s : State,
    let l := s.lists
    let t := s.crossBackward
    (0 < l.ahead → t.lists = { l with ahead := l.ahead - 1 }) ∧
    (∀ c h r, l.ahead = 0 → l.current = some c → l.history = h ++ [r] →
      t.lists.current = some r ∧ t.lists.history = h ∧ t.lists.replay = c :: l.replay ∧ t.lists.queue = l.queue ∧
      t.lists.bound = true) ∧
    (l.ahead = 0 → l.history = [] → t.lists = { l with behind := min 65535 (l.behind + 1) } ∧
      (l.behind = 0 → s.run.state = .run → t.run.state = .halt ∧ ∃ h, t.run.halt = some h ∧ h.cause = .reverseLimit))

/-! ### Planner and motion (06, 07) -/

/-- The move times and speeds (R98 to R100): twice the least whole number whose square is at least 1,000,000 s / A, the least
whole number that is at least 2,000 s / Vb, the larger of the two, and the speed over a window of w counts. -/
def Obligations.MoveTimesFollowTheProfile : Prop :=
  ∀ (m : MachineRecord) (p : Profile) (s d w : Nat), 0 < s → 0 < d → 0 < p.accel → 0 < p.speed → 0 < m.pitch →
    (∃ r, accelTime p s = 2 * r ∧ 1000000 * s ≤ r * r * p.accel ∧ ∀ r', 1000000 * s ≤ r' * r' * p.accel → r ≤ r') ∧
    (2000 * s ≤ speedTime p s * p.speed ∧ ∀ t, 2000 * s ≤ t * p.speed → speedTime p s ≤ t) ∧
    moveTime p s = max (accelTime p s) (speedTime p s) ∧
    moveSpeed m p w d = min (w * 15000 / moveTime p (d * m.pitch)) m.vmax ∧ moveSpeed m p w 0 = m.vmax

/-- The ceiling of a record (R97, R101): the lowest of Vmax, its cap, and for each assigned bar in rising order the speeds of
its overlap and its underlap; the first candidate that equals it is the limit source. -/
def Obligations.CeilingIsTheLowestCandidate : Prop :=
  ∀ (s : State) (r next : CourseRecord) (lap lap' : Nat → BarLap),
    (∀ b ∈ s.assignedBars, r.lap b = some (lap b) ∧ next.lap b = some (lap' b)) →
    let m := s.machine
    let candidates : List Ceiling := ⟨m.vmax, .vmax⟩ ::
      ((match r.cap with | some c => [⟨min c m.vmax, .cap⟩] | none => []) ++
        s.assignedBars.flatMap fun b =>
          [⟨moveSpeed m (s.profile b) (m.ovEnd - m.ovStart) ((lap b).front - (lap b).back + ((lap b).back - (lap b).front)),
              .bar b .overlap⟩,
            ⟨moveSpeed m (s.profile b) (m.ulEnd - m.ulStart) ((lap b).back - (lap' b).front + ((lap' b).front - (lap b).back)),
              .bar b .underlap⟩])
    ∃ i, candidates[i]? = some (s.ceilingOf r next) ∧
      (∀ (j : Nat) (x : Ceiling), candidates[j]? = some x → (s.ceilingOf r next).value ≤ x.value ∧
        (j < i → (s.ceilingOf r next).value < x.value))

/-- The permit (R105, R106): with no current record 0 and NONE; otherwise the lowest of Vmax, each ceiling raised by its
distance in Dmax, and the number of records after current times Dmax, and the limiting term names the first ceiling or the tail
term that is lowest. The relation between the lists and the ceilings that R103 keeps is assumed. -/
def Obligations.PermitIsTheLowestTerm : Prop :=
  ∀ (m : MachineRecord) (l : Lists) (r : CourseRecord) (c : Nat → Ceiling),
    (planOf m { l with current := none } = ⟨0, .none⟩) ∧
    (l.current = some r → (∀ j, j < l.after.length → ∃ x : CourseRecord, (r :: l.after)[j]? = some x ∧ x.ceiling = some (c j)) →
      (0 < l.after.length → (c 0).value ≤ m.vmax) →
      let n := l.after.length
      let p := planOf m l
      p.permit ≤ m.vmax ∧ p.permit ≤ n * m.dmax ∧ (∀ j, j < n → p.permit ≤ (c j).value + j * m.dmax) ∧
      ((p.permit = n * m.dmax ∧ p.term = .tail n ∧ ∀ j, j < n → n * m.dmax < (c j).value + j * m.dmax) ∨
        ∃ (j : Nat) (x : CourseRecord), j < n ∧ (r :: l.after)[j]? = some x ∧ p.permit = (c j).value + j * m.dmax ∧
          p.term = .ceiling j x.tag (c j).source ∧ ∀ k, k < j → p.permit < (c k).value + k * m.dmax))

/-- The move law and the cam (R129, R130): the distance covered; 0 at the start, s at the end and never falling between; and
the cam at a before ov_start, b between the windows, the next front position from ul_end, the law inside the windows. -/
def Obligations.CamFollowsTheMoveLaw : Prop :=
  (∀ s u w : Nat, u ≤ w → 0 < w →
    lawDistance s u w = (if 2 * u ≤ w then 2 * s * u ^ 2 / w ^ 2 else s - 2 * s * (w - u) ^ 2 / w ^ 2) ∧
    lawDistance s 0 w = 0 ∧ lawDistance s w w = s ∧ lawDistance s u w ≤ s ∧
    ∀ v, u ≤ v → v ≤ w → lawDistance s u w ≤ lawDistance s v w) ∧
  (∀ (m : MachineRecord) (e : Nat) (a b next : Int),
    m.ovStart < m.ovEnd → m.ovEnd < m.ulStart → m.ulStart < m.ulEnd →
    (e < m.ovStart → cam m e a b next = a) ∧
    (m.ovEnd ≤ e → e < m.ulStart → cam m e a b next = b) ∧
    (m.ulEnd ≤ e → cam m e a b next = next) ∧
    (m.ovStart ≤ e → e < m.ovEnd → cam m e a b next =
      if a ≤ b then a + lawDistance (b - a).natAbs (e - m.ovStart) (m.ovEnd - m.ovStart)
      else a - lawDistance (b - a).natAbs (e - m.ovStart) (m.ovEnd - m.ovStart)) ∧
    (m.ulStart ≤ e → e < m.ulEnd → cam m e a b next =
      if b ≤ next then b + lawDistance (next - b).natAbs (e - m.ulStart) (m.ulEnd - m.ulStart)
      else b - lawDistance (next - b).natAbs (e - m.ulStart) (m.ulEnd - m.ulStart)))

/-! ### Bar channels, referencing and jogs (07, 08) -/

/-- EXCHANGE (R115, R118, R120): nothing for an ABSENT channel. While no fourth status is missing and no timer ends, the count of
missing statuses rises by 1 for one that is missing, the running timers gain 250 us, the last two setpoints are kept, and the frame
carries the state's bits and the setpoint: held, or by the move law at 250 us times the number of the exchange in JOGGING, ALIGNING
and ZERO (R134; 08, R143, R149), or a step of LEAVE or SEARCH toward its limit, the phase chosen by the switch (08, R141, R142). The
rows inside an exchange: log 6; the count at 4: log 11; the end of a move: log 12; a referencing without a status: log 26; the clock,
at the exchange's time: log 1. -/
def Obligations.ExchangeSendsTheSetpoint : Prop :=
  (∀ (b : Nat) (s : State), s.Quiet → barExists b = true → s.Sized →
      let c := s.channel b
      let now := max s.now c.exchangeAt
      (c.state = .absent → exec (.exchange b) s = .next s) ∧
      (c.state = .off ∨ c.state = .energizing ∨ c.state = .idle ∨ c.state = .idleReduced ∨ c.state = .following ∨
          c.state = .faulted →
        (c.exchanging = true → c.taken = true) → s.comingExpiry b = .none →
        exec (.exchange b) s = .next { s with
          now := now
          channels := s.channels.set (b - 1) { c with
            enableTimer := c.enableTimer.map (· + 250), energizeTimer := c.energizeTimer.map (· + 250)
            holdTimer := c.holdTimer.map (· + 250), settleTimer := c.settleTimer.map (· + 250)
            sentOld := c.sentNew, sentNew := c.setpoint, exchanging := true, taken := false, exchangeAt := now + 250
            frame :=
              let flags := (if c.state = .off ∨ c.state = .faulted then 0 else 1) + (if c.state = .idleReduced then 2 else 0)
              let body := [byteOf b, byteOf flags] ++ signedBytes c.setpoint
              [0xC3] ++ body ++ beBytes 2 (crc body).toNat } })) ∧
  (∀ (b : Nat) (s : State), s.Quiet → barExists b = true → s.Sized →
      let c := s.channel b
      let m := s.machine
      let p := s.profile b
      let now := max s.now c.exchangeAt
      let missing : Prop := c.exchanging = true ∧ c.taken = false
      let ends : Option Nat → Nat → Prop := fun timer ms => ∃ e, timer = some e ∧ 1000 * ms ≤ e + 250
      let sends : Channel → Prop := fun k => exec (.exchange b) s = .next { s with
        now := now
        channels := s.channels.set (b - 1) { k with
          missed := if missing then min 4 (c.missed + 1) else c.missed
          enableTimer := c.enableTimer.map (· + 250), energizeTimer := c.energizeTimer.map (· + 250)
          holdTimer := c.holdTimer.map (· + 250), settleTimer := c.settleTimer.map (· + 250)
          sentOld := c.sentNew, sentNew := k.setpoint, exchanging := true, taken := false, exchangeAt := now + 250
          frame :=
            let flags := (if c.state = .off ∨ c.state = .faulted then 0 else 1) + (if c.state = .idleReduced then 2 else 0)
            let body := [byteOf b, byteOf flags] ++ signedBytes k.setpoint
            [0xC3] ++ body ++ beBytes 2 (crc body).toNat } }
      let step : Int := (p.homing / 4 : Nat)
      let above : Int := min 8388607 (c.setpoint + 2 * m.pitch)
      let below : Int := max (-8388608) (c.setpoint - p.search)
      let up : Int → Channel → Channel := fun limit k =>
        let x := min limit (c.setpoint + step)
        { k with setpoint := x, limitSent := if x = limit then min 2 (k.limitSent + 1) else k.limitSent }
      let down : Int → Channel → Channel := fun limit k =>
        let x := max limit (c.setpoint - step)
        { k with setpoint := x, limitSent := if x = limit then min 2 (k.limitSent + 1) else k.limitSent }
      let timed : Prop := (c.state = .jogging ∧ ¬ends c.settleTimer m.settleTimeout) ∨ c.state = .aligning ∨
        (c.state = .referencing ∧ c.phase = some .zero)
      ¬(missing ∧ c.missed = 3) →
      (c.state = .off ∨ c.state = .idleReduced ∨ c.state = .following ∨ c.state = .faulted → sends c) ∧
      (c.state = .idle → m.holdDelay = 0 ∨ ¬ends c.holdTimer m.holdDelay → sends c) ∧
      (c.state = .energizing → ¬ends c.enableTimer m.enableTimeout → ¬ends c.energizeTimer m.energizeTime → sends c) ∧
      (timed →
        (c.move = none → sends c) ∧
        (∀ mv, c.move = some mv → 250 * mv.sent < mv.time →
          let gone := lawDistance (mv.target - mv.start).natAbs (250 * mv.sent) mv.time
          sends { c with
            setpoint := if mv.start ≤ mv.target then mv.start + gone else mv.start - gone
            move := some { mv with sent := mv.sent + 1 } })) ∧
      (c.state = .referencing →
        (c.phase = none →
          (∀ d, c.last = some d → d.switch = true → sends (up above { c with phase := some .leave, limit := above, limitSent := 0 })) ∧
          ((∀ d, c.last = some d → d.switch = false) →
            sends (down below { c with phase := some .search, limit := below, limitSent := 0 }))) ∧
        (c.phase = some .leave → sends (up c.limit c)) ∧
        (c.phase = some .search → sends (down c.limit c))))

/-- DRIVE_LOST (R120, R124): at the fourth missing status the view is SILENT; an enabled channel faults, unreferenced and with
its enable off, and a machine in RUN halts on it; a channel in OFF or FAULTED keeps its state. Otherwise the row changes
nothing (log 6, 7), and so it does at a count that stands at 4 already (log 11). -/
def Obligations.FourthMissingStatusLosesTheDrive : Prop :=
  ∀ (b : Nat) (s : State), s.Quiet → barExists b = true → s.Sized → (s.channel b).state ≠ .absent →
    let c := s.channel b
    (c.exchanging = true → c.taken = false → c.missed = 3 →
      ∃ t, exec (.driveLost b) s = .next t ∧ (t.channel b).view = .silent ∧ (t.channel b).missed = 4 ∧
        (c.state.enabled = true →
          (t.channel b).state = .faulted ∧ (t.channel b).referenced = false ∧ (t.channel b).refPoint = none ∧
          (t.channel b).frame = setpointFrame b false false (t.channel b).setpoint ∧
          (s.run.state = .run → t.run.state = .halt ∧ t.run.halt =
            some ⟨.driveLost, 0, b, s.currentTag, s.tracker.angle, s.tracker.speed⟩)) ∧
        (c.state.enabled = false → (t.channel b).state = c.state)) ∧
    (c.missed ≠ 3 ∨ c.taken = true ∨ c.exchanging = false → exec (.driveLost b) s = .next s)

/-- The four timers (R126 to R128; 08, R150): ENABLE_TIMEOUT faults the channel; ENERGIZE_TIME_END goes to IDLE, its hold timer
running unless the delay is 0, or to the pending move; HOLD_DELAY_EXPIRY reduces the current with the setpoint held;
SETTLE_TIMEOUT ends the jog with NOT_IN_POSITION in IDLE, its difference in JOG_DONE. Each row is the whole exchange, which so sends
its frame with the bits of the state it leaves (R118; log 6). -/
def Obligations.TimersEndAtTheirExchange : Prop :=
  ∀ (b : Nat) (s : State), s.Quiet → barExists b = true → s.Sized → (s.channel b).missed < 3 →
    let c := s.channel b
    (∀ e, c.state = .energizing → c.enableTimer = some e → 1000 * s.machine.enableTimeout ≤ e + 250 →
      ∃ t, exec (.enableTimeout b) s = .next t ∧ (t.channel b).state = .faulted ∧ (t.channel b).referenced = false ∧
        (s.run.state = .run → ∃ h, t.run.halt = some h ∧ h.cause = .driveFault ∧ h.detail = 0x10 ∧ h.bar = b)) ∧
    (∀ e, c.state = .energizing → c.enableTimer = none → c.energizeTimer = some e →
      1000 * s.machine.energizeTime ≤ e + 250 →
      ∃ t, exec (.energizeTimeEnd b) s = .next t ∧
        (t.channel b).state = (match c.pendingMove with
          | none => .idle | some .jog => .jogging | some .referencing => .referencing | some .alignment => .aligning) ∧
        (t.channel b).energizeTimer = none ∧ (t.channel b).pendingMove = none ∧
        (c.pendingMove = none → (t.channel b).setpoint = c.setpoint ∧
          (t.channel b).holdTimer = if s.machine.holdDelay = 0 then none else some 0)) ∧
    (∀ e, c.state = .idle → s.machine.holdDelay ≠ 0 → c.holdTimer = some e → 1000 * s.machine.holdDelay ≤ e + 250 →
      ∃ t, exec (.holdDelayExpiry b) s = .next t ∧ (t.channel b).state = .idleReduced ∧
        (t.channel b).setpoint = c.setpoint ∧ (t.channel b).holdTimer = none ∧
        (t.channel b).frame = setpointFrame b true true c.setpoint) ∧
    (∀ e j d, c.state = .jogging → c.settleTimer = some e → 1000 * s.machine.settleTimeout ≤ e + 250 → c.jog = some j →
      c.last = some d →
      ∃ t, exec (.settleTimeout b) s = .next t ∧ (t.channel b).state = .idle ∧ (t.channel b).jog = none ∧
        (t.channel b).setpoint = c.setpoint ∧ (t.channel b).referenced = c.referenced ∧
        t.link = s.link.offer
          ⟨.jogDone j.target (heldSigned (d.actual - j.coord)) j.time, 0x01, b, s.currentTag, s.tracker.angle⟩)

/-- The exchange that first sends a move's target (R134; 08, R143, R144, R149): JOG_TARGET_REACHED sets the last target index and
starts the settle timer; ZERO_MOVE_COMPLETE makes the channel referenced and IDLE at index 0 and finishes its bar as found;
ALIGNED reports the alignment. Each row is the whole exchange and so sends the target (log 6); exchange number k is the one that
first sends it when 250 k reaches the move time (log 12). -/
def Obligations.TargetsAreReached : Prop :=
  ∀ (b : Nat) (mv : TimedMove) (s : State), s.Quiet → barExists b = true → s.Sized → (s.channel b).missed < 3 →
    (s.channel b).move = some mv → mv.time ≤ mv.sent * 250 →
    let c := s.channel b
    (∀ j, c.state = .jogging → c.jog = some j → c.settleTimer = none →
      ∃ t, exec (.jogTargetReached b) s = .next t ∧ (t.channel b).state = .jogging ∧
        (t.channel b).setpoint = mv.target ∧ (t.channel b).sentNew = mv.target ∧ (t.channel b).lastTarget = j.target ∧
        (t.channel b).settleTimer = some 0) ∧
    (∀ r, c.state = .referencing → c.phase = some .zero → s.referencing = some r → inSet r.remaining b = true →
      ∃ t, exec (.zeroMoveComplete b) s = .next t ∧ (t.channel b).state = .idle ∧ (t.channel b).referenced = true ∧
        (t.channel b).refPoint = c.refPoint ∧ (t.channel b).lastTarget = 0 ∧ (t.channel b).setpoint = mv.target ∧
        (t.channel b).sentNew = mv.target ∧
        (if r.remaining &&& ~~~(barBit b) = 0 then t.referencing = none ∧
            t.link = s.link.offer ⟨.referenceDone (r.found ||| barBit b), r.outcomes, (barsOf r.selected).length,
              s.currentTag, s.tracker.angle⟩
          else t.referencing = some { r with
            remaining := r.remaining &&& ~~~(barBit b), found := r.found ||| barBit b })) ∧
    (c.state = .aligning →
      ∃ t, exec (.aligned b) s = .next t ∧ (t.channel b).state = .aligning ∧ (t.channel b).aligned = true ∧
        (t.channel b).setpoint = mv.target ∧ (t.channel b).sentNew = mv.target)

/-- STATUS_FRAME (R119 to R124): the frame of a bar on its line is the exchange's status unless the channel is ABSENT or has taken one;
a bad CRC discards it. The channel keeps it, shows its view and counts no status missing. A fault code, ready lost once seen (R121)
or a following error beyond the limit (R122) faults an enabled channel. ENERGIZING tracks the position until the first ready, which
starts the energize timer (R126); a jog in its settle time ends in position (08, R150); LEAVE, SEARCH and NOT_FOUND go as 08, R141,
R142 and R144 have it. OFF and FAULTED track the position and report a change of view, in place where the queue holds one (R123; the
view kept there: log 13). The setpoint a BAR_FAULT gives without a comparison is free (log 10); that a status that faults the channel
leaves a setpoint that did not track before it is log 30. -/
def Obligations.StatusFrameIsTaken : Prop :=
  (∀ (line : DriveLine) (b : Nat) (d : DriveStatus) (s : State), s.Quiet → barExists b = true → s.Sized →
      d.fault < 16 → -8388608 ≤ d.actual → d.actual ≤ 8388607 →
      let c := s.channel b
      (onLine line b = false ∨ c.state = .absent ∨ c.taken = true →
        exec (.statusFrame line (statusBytes b d)) s = .next s) ∧
      (∀ c1 c0 : Byte, [c1, c0] ≠ crcBytes ((statusBytes b d).tail.take 5) →
        exec (.statusFrame line ((statusBytes b d).take 6 ++ [c1, c0])) s = .next s) ∧
      (onLine line b = true → c.state ≠ .absent → c.taken = false →
        ∃ t, exec (.statusFrame line (statusBytes b d)) s = .next t ∧ (t.channel b).last = some d ∧
          (t.channel b).taken = true ∧ (t.channel b).missed = 0 ∧
          (t.channel b).view = (if d.ready then .ready else .notReady) ∧
          (c.state.enabled = true → d.fault ≠ 0 → (t.channel b).state = .faulted ∧ (t.channel b).referenced = false ∧
            (s.run.state = .run → t.run.state = .halt ∧ ∃ h, t.run.halt = some h ∧ h.cause = .driveFault ∧
              h.detail = d.fault ∧ h.bar = b)) ∧
          (c.state = .following → d.fault = 0 → d.ready = true →
            (s.machine.followLimit < (d.actual - c.sentOld).natAbs → (t.channel b).state = .faulted) ∧
            ((d.actual - c.sentOld).natAbs ≤ s.machine.followLimit → (t.channel b).state = .following)) ∧
          (c.state = .off ∨ c.state = .faulted →
            (t.channel b).state = c.state ∧ (t.channel b).setpoint = d.actual))) ∧
  (∀ (line : DriveLine) (b : Nat) (d : DriveStatus) (s : State), s.Quiet → barExists b = true → s.Sized →
      d.fault < 16 → -8388608 ≤ d.actual → d.actual ≤ 8388607 → onLine line b = true → (s.channel b).taken = false →
      let c := s.channel b
      let m := s.machine
      let p := s.profile b
      let out := exec (.statusFrame line (statusBytes b d)) s
      let view : DriveView := if d.ready then .ready else .notReady
      let k : Channel := { c with missed := 0, taken := true, last := some d, view := view }
      let put : Channel → State := fun x => { s with channels := s.channels.set (b - 1) x }
      let idle : Channel := { k with
        state := .idle, phase := none, enableTimer := none, energizeTimer := none, settleTimer := none
        holdTimer := if m.holdDelay = 0 then none else some 0
        pendingMove := none, jog := none, move := none, limitSent := 0, aligned := false }
      let moving : Prop := c.state = .jogging ∨ c.state = .referencing ∨ c.state = .aligning ∨ c.state = .following
      let apart := (d.actual - c.sentOld).natAbs
      let good : Prop := d.fault = 0 ∧ (d.ready = true ∨ c.readySeen = false)
      let faulted : Cause → Nat → Nat → Nat → State → Prop := fun cause code detail error t =>
        (t.channel b).state = .faulted ∧ (t.channel b).referenced = false ∧ (t.channel b).refPoint = none ∧
        (t.channel b).setpoint = (if c.state = .energizing ∧ c.readySeen = false then d.actual else c.setpoint) ∧
        (s.run.state = .run → t.run.state = .halt ∧
          t.run.halt = some ⟨cause, detail, b, s.currentTag, s.tracker.angle, s.tracker.speed⟩) ∧
        (s.run.state = .standby ∨ s.run.state = .hold → s.run.requested ≠ some .run → c.jog = none →
          (∀ r, s.referencing = some r → inSet r.remaining b = false) → t.run = s.run ∧
          ∃ x : Int, (cause = .barFollow → x = c.sentOld) ∧ t.link = s.link.offer
            ⟨.barFault c.state detail (min error 16777215) x, code, b, s.currentTag, s.tracker.angle⟩)
      (c.state = .energizing → c.readySeen = false → d.fault = 0 → out = .next (put
        (if d.ready then { k with setpoint := d.actual, readySeen := true, enableTimer := none, energizeTimer := some 0 }
          else { k with setpoint := d.actual }))) ∧
      (c.state = .idle ∨ c.state = .idleReduced ∨ (c.state = .energizing ∧ c.readySeen = true) → good →
        out = .next (put k)) ∧
      (c.state.enabled = true → d.fault ≠ 0 → ∃ t, out = .next t ∧ faulted .driveFault 0x07 d.fault 0 t) ∧
      (c.state.enabled = true → c.readySeen = true → d.ready = false → d.fault = 0 →
        ∃ t, out = .next t ∧ faulted .driveFault 0x07 0x10 0 t) ∧
      (moving → good → m.followLimit < apart → ∃ t, out = .next t ∧ faulted .barFollow 0x06 0 apart t) ∧
      (c.state = .aligning ∨ c.state = .following → good → apart ≤ m.followLimit → out = .next (put k)) ∧
      (∀ e j, c.state = .jogging → good → apart ≤ m.followLimit → c.settleTimer = some e → c.jog = some j →
        out = .next
          (if (d.actual - j.coord).natAbs ≤ m.inPosition then
            { put idle with
              link := s.link.offer
                ⟨.jogDone j.target (heldSigned (d.actual - j.coord)) j.time, 0x00, b, s.currentTag, s.tracker.angle⟩ }
          else put k)) ∧
      (c.state = .jogging → good → apart ≤ m.followLimit → c.settleTimer = none → out = .next (put k)) ∧
      (c.state = .referencing → good → apart ≤ m.followLimit →
        (c.phase = none ∨ c.phase = some .zero ∨ (c.phase = some .leave ∧ d.switch = true ∧ c.limitSent ≠ 2) ∨
          (c.phase = some .search ∧ d.switch = false ∧ c.limitSent ≠ 2) → out = .next (put k)) ∧
        (c.phase = some .leave → d.switch = false →
          out = .next (put { k with phase := some .search, limit := max (-8388608) (c.setpoint - p.search), limitSent := 0 })) ∧
        (c.phase = some .search → d.switch = true → d.actual + p.zeroOffset + p.travel * m.pitch ≤ 8388607 →
          out = .next (put { k with
            phase := some .zero, refPoint := some d.actual
            move := some ⟨c.setpoint, d.actual + p.zeroOffset,
              moveTime p (d.actual + p.zeroOffset - c.setpoint).natAbs, 0⟩ })) ∧
        (∀ r, s.referencing = some r → inSet r.remaining b = true →
          (c.phase = some .leave ∧ d.switch = true ∧ c.limitSent = 2) ∨
            (c.phase = some .search ∧ d.switch = false ∧ c.limitSent = 2) ∨
            (c.phase = some .search ∧ d.switch = true ∧ 8388607 < d.actual + p.zeroOffset + p.travel * m.pitch) →
          let rest := r.remaining &&& ~~~(barBit b)
          let t := put { idle with referenced := false, refPoint := none, lastTarget := 0 }
          out = .next
            (if rest = 0 then { t with
              referencing := none
              link := s.link.offer ⟨.referenceDone r.found, r.outcomes ||| 0x01, (barsOf r.selected).length, s.currentTag,
                s.tracker.angle⟩ }
            else { t with referencing := some { r with remaining := rest, outcomes := r.outcomes ||| 0x01 } }))) ∧
      (c.state = .off ∨ c.state = .faulted →
        let t := put { k with setpoint := d.actual }
        let notice : DriveView → Notice := fun before => ⟨.driveChange before d.fault d.switch d.actual,
          if d.ready then 0x01 else 0x02, b, s.currentTag, s.tracker.angle⟩
        (c.view = .unknown ∨ c.view = view → out = .next t) ∧
        (c.view ≠ .unknown → c.view ≠ view →
          ((∀ n ∈ s.link.notices, n.driveChangeBar ≠ some b) →
            out = .next { t with link := s.link.offer (notice c.view) }) ∧
          (∀ i n before fault switch actual, s.NoticesSound → s.link.notices[i]? = some n →
            n.report = .driveChange before fault switch actual → n.subject = b →
            out = .next { t with link := { s.link with notices := s.link.notices.set i (notice before) } }))))

/-- REFERENCE and JOG, and ALLOWANCE_TIMEOUT (08, R139, R140, R145, R148, R149): judged in the order of their tables, a refusal changing
the link alone; accepted, the referencing record begins and each selected channel loses its reference and starts from IDLE, or after
energizing from IDLE_REDUCED; a jog goes to the coordinate of its index in its move time; when the allowance expires every remaining
channel is IDLE and unreferenced, and REFERENCE_DONE reports the bars found. The clock is the model's, at the allowance's end (log 1),
and so is the line time of a reply (log 15);
a referenced channel without a reference point, which no run reaches, is taken to have it at 0 (log 23). -/
def Obligations.ReferenceAndJogStartTheirMoves : Prop :=
  (∀ (tag : Tag) (bars : BarSet) (ext b k : Nat) (s : State), s.Quiet → s.Sized →
      (s.PortFree → s.run.state = .hold → s.run.changing = false → s.tracker.stopped = true →
        (s.referencing = none → bars ≠ 0 →
          (∀ x ∈ barsOf bars, s.assigned x = true ∧ (s.channel x).state.holding = true) →
          ∃ t, exec (.reference tag bars ext) s = .next t ∧
            t.referencing = some ⟨bars, bars, 0, 0, s.now, 10 + ext⟩ ∧
            (∀ x, barExists x = true → if inSet bars x then
                (t.channel x).referenced = false ∧ (t.channel x).refPoint = none ∧ (t.channel x).lastTarget = 0 ∧
                (if (s.channel x).state = .idle then (t.channel x).state = .referencing
                  else (t.channel x).state = .energizing ∧ (t.channel x).pendingMove = some .referencing ∧
                    (t.channel x).energizeTimer = some 0)
              else t.channel x = s.channel x) ∧
            (∃ room flags, t.link.tx = some ⟨tag, 0xD0, [0x00, room, flags, 0] ++ beBytes 2 (10 + ext)⟩)) ∧
        (barExists b = true → (s.channel b).referenced = true → (s.channel b).state.holding = true →
          (∀ n ∈ s.link.notices, n.jogDoneBar ≠ some b) → k ≤ (s.profile b).travel →
          let coord : Int := (s.channel b).refPoint.getD 0 + (s.profile b).zeroOffset + k * s.machine.pitch
          let time := moveTime (s.profile b) (coord - (s.channel b).setpoint).natAbs
          ∃ t, exec (.jog tag b k) s = .next t ∧ (t.channel b).jog = some ⟨k, coord, time⟩ ∧
            (t.channel b).move = some ⟨(s.channel b).setpoint, coord, time, 0⟩ ∧
            (t.channel b).referenced = true ∧ (t.channel b).setpoint = (s.channel b).setpoint ∧
            (if (s.channel b).state = .idle then (t.channel b).state = .jogging
              else (t.channel b).state = .energizing ∧ (t.channel b).pendingMove = some .jog) ∧
            (∃ room flags, t.link.tx = some ⟨tag, 0xD1, [0x00, room, flags, 0] ++ beBytes 4 time⟩))) ∧
      (∀ r, s.referencing = some r →
        ∃ t, exec .allowanceTimeout s = .next t ∧ t.referencing = none ∧
          t.now = max s.now (r.startedAt + 1000000 * r.seconds) ∧
          t.link = s.link.offer ⟨.referenceDone r.found, r.outcomes ||| 0x02, (barsOf r.selected).length, s.currentTag,
            s.tracker.angle⟩ ∧
          ∀ x, barExists x = true → if inSet r.remaining x then
              (t.channel x).state = .idle ∧ (t.channel x).referenced = false ∧ (t.channel x).refPoint = none ∧
              (t.channel x).setpoint = (s.channel x).setpoint
            else t.channel x = s.channel x)) ∧
  (∀ (tag : Tag) (bars : BarSet) (ext b k : Nat) (s : State), s.Quiet → s.PortFree →
      let code : ChannelState → Byte := fun x => match x with
        | .absent => 0x00#8 | .off => 0x01#8 | .energizing => 0x02#8 | .idle => 0x03#8 | .idleReduced => 0x04#8
        | .jogging => 0x05#8 | .referencing => 0x06#8 | .aligning => 0x07#8 | .following => 0x08#8 | .faulted => 0x09#8
      let reference := fun result payload =>
        exec (.reference tag bars ext) s = .next (s.replies tag (.reference bars ext) result payload)
      let jog := fun result payload => exec (.jog tag b k) s = .next (s.replies tag (.jog b k) result payload)
      (s.run.state ≠ .hold → reference .wrongState [] ∧ jog .wrongState []) ∧
      (s.run.state = .hold → s.run.changing = true → reference .busy [] ∧ jog .busy []) ∧
      (s.run.state = .hold → s.run.changing = false →
        (s.referencing.isSome = true → reference .busy []) ∧
        (s.referencing = none →
          (s.tracker.stopped = false → reference .shaftMoving []) ∧
          (s.tracker.stopped = true →
            (bars = 0 → reference .badField [0]) ∧
            (∀ x, barExists x = true → inSet bars x = true → s.assigned x = false →
              (∀ y, barExists y = true → y < x → inSet bars y = true → s.assigned y = true) →
              reference .badField [0, byteOf x]) ∧
            (∀ x, barExists x = true → inSet bars x = true → (s.channel x).state ≠ .idle → (s.channel x).state ≠ .idleReduced →
              (∀ y, barExists y = true → inSet bars y = true → s.assigned y = true) →
              (∀ y, barExists y = true → y < x → inSet bars y = true →
                (s.channel y).state = .idle ∨ (s.channel y).state = .idleReduced) →
              reference .busy [byteOf x, code (s.channel x).state]))) ∧
        (s.tracker.stopped = false → jog .shaftMoving []) ∧
        (s.tracker.stopped = true →
          (b < 1 ∨ 64 < b → jog .badField [0]) ∧
          (1 ≤ b → b ≤ 64 →
            ((s.channel b).referenced = false → jog .notReferenced []) ∧
            ((s.channel b).referenced = true →
              ((s.channel b).state ≠ .idle → (s.channel b).state ≠ .idleReduced → jog .busy [code (s.channel b).state]) ∧
              ((s.channel b).state = .idle ∨ (s.channel b).state = .idleReduced →
                ((∃ n ∈ s.link.notices, n.jogDoneBar = some b) → jog .noticePending []) ∧
                ((∀ n ∈ s.link.notices, n.jogDoneBar ≠ some b) → (s.profile b).travel < k → jog .badPosition []))))))
)

/-! ### The run controller (09) -/

/-- SET_RUN_STATE (R156 to R158, R160, R163): the refusals in the order of the table; the target that is the present state cancels
a wait; STANDBY toward HOLD starts the enabling; HOLD toward STANDBY is done at once; HOLD toward RUN waits, or aligns when the
machine is fit; RUN and HALT are left when the shaft is STOPPED, and until then the published permit is 0. RUN asked for in
STANDBY or HALT is registered as bad and acts as HOLD. -/
def Obligations.RunStateRequestsFollowTheirTable : Prop :=
  ∀ (tag : Tag) (code : Nat) (s : State), s.Quiet → s.PortFree → s.PermitSound →
    let r : Request := .setRunState code
    let out := exec (.setRunState tag code) s
    (2 < code → out = .next (s.replies tag r .badField [0])) ∧
    (code ≤ 2 → s.run.changing = true → out = .next (s.replies tag r .busy [])) ∧
    (s.run.changing = false → s.run.state = .hold → code = 2 →
      (∀ b, s.assignedBars.find? (fun x => !(s.channel x).referenced) = some b →
        out = .next (s.replies tag r .notReferenced [byteOf b])) ∧
      ((∀ x ∈ s.assignedBars, (s.channel x).referenced = true) →
        (s.lists.source = .player → s.player.active = none → out = .next (s.replies tag r .noSequence [])) ∧
        (s.lists.source = .stream → s.lists.streamOpen = false → s.lists.endSeen = false →
          out = .next (s.replies tag r .noStream [])) ∧
        ((s.lists.source = .player → s.player.active.isSome = true) →
          (s.lists.source = .stream → s.lists.streamOpen = true ∨ s.lists.endSeen = true) →
          (s.fitForRun = false → out = .next
            (({ s with run := { s.run with waiting := true, requested := some .run, badRequest := false } }.taken tag
              r).answered tag r .ok [])) ∧
          (s.fitForRun = true → s.assignedBars ≠ [] → ∃ t, out = .next t ∧
            t.run = { s.run with waiting := false, changing := true, requested := some .run, badRequest := false })))) ∧
    (s.run.changing = false →
      (code = 0 ∧ s.run.state = .standby) ∨ (code = 1 ∧ s.run.state = .hold) ∨ (code = 2 ∧ s.run.state = .run) →
      out = .next
        (({ s with run := { s.run with waiting := false, requested := none, badRequest := false } }.publish.taken tag
          r).answered tag r .ok [])) ∧
    (s.run.changing = false → s.run.state = .standby → code = 1 ∨ code = 2 → s.Sized →
      (∃ b ∈ s.assignedBars, (s.channel b).state = .off) →
      ∃ t, out = .next t ∧
        t.run = { s.run with changing := true, requested := some .hold, badRequest := code == 2 } ∧
        { t with run := s.run, channels := s.channels, link := s.link } = s ∧
        t.link.tx = some ⟨tag, 0xD2, [if code = 1 then 0x00 else 0x15, byteOf s.room, t.flagByte, 0]⟩ ∧
        ∀ b, barExists b = true → if s.assigned b = true ∧ (s.channel b).state = .off then
            (t.channel b).state = .energizing ∧ (t.channel b).enableTimer = some 0 ∧ (t.channel b).pendingMove = none ∧
            (t.channel b).setpoint = (s.channel b).setpoint
          else t.channel b = s.channel b) ∧
    (s.run.changing = false → s.run.state = .hold → code = 0 →
      out = .next
        ((({ s with run := { s.run with badRequest := false } }.taken tag r).enterStandby).answered tag r .ok [])) ∧
    (s.run.changing = false → (s.run.state = .run ∧ code ≤ 1) ∨ (s.run.state = .halt ∧ code ≤ 2) →
      (s.tracker.stopped = false → out = .next
        (({ s with
            run := { s.run with
              waiting := true, requested := some (if code = 0 then .standby else .hold), badRequest := code == 2
              published := 0 }
            permitLine := { s.permitLine with due := s.permitLine.due || s.run.published != 0 } }.taken tag r).answered tag r
          (if code = 2 then .registeredBad else .ok) [])) ∧
      (s.tracker.stopped = true → ∃ t, out = .next t ∧ t.run.state = (if code = 0 then .standby else .hold) ∧
        t.run.waiting = false ∧ t.run.requested = none ∧ t.run.halt = none ∧ t.run.published = 0 ∧
        t.run.badRequest = (code == 2)))

/-- The entries into HOLD and STANDBY (R159, R163 to R165, R170): ENTER_HOLD_FROM_STANDBY when every assigned channel holds or is
FAULTED; ENTER_HOLD and ENTER_STANDBY when a leave request finds the shaft STOPPED. The request and the halt record end, the
published permit is 0, a permit frame falls due, and STATE_REACHED comes last, with the channels FAULTED before. -/
def Obligations.HoldAndStandbyAreEntered : Prop :=
  ∀ s : State, s.isHeld = false → s.Sized →
    let faulted : BarSet := s.faultedSet
    let entered (state : RunState) : RunControl :=
      { s.run with state := state, requested := none, waiting := false, changing := false, published := 0 }
    (s.run.state = .standby → s.run.changing = true → s.run.requested = some .hold →
      (∀ b ∈ s.assignedBars, (s.channel b).state.holding = true ∨ (s.channel b).state = .faulted) →
      exec .enterHoldFromStandby s = .next
        (({ s with
            run := entered .hold, planner := planOf s.machine s.lists
            permitLine := { s.permitLine with due := true } }.feed).notify
          (.stateReached faulted) (if faulted = 0 then 0x01 else 0x81) 0x00)) ∧
    (s.run.state = .run ∨ s.run.state = .halt → s.run.changing = false → s.run.waiting = true → s.tracker.stopped = true →
      (s.run.requested = some .hold → ∃ e : State,
        e = { s with
          run := { entered .hold with halt := none }, planner := planOf s.machine s.lists
          lists := { s.lists with bound := false, behind := 0, ahead := 0 }
          permitLine := { s.permitLine with due := true }, channels := e.channels } ∧
        (∀ b, barExists b = true →
          (e.channel b).setpoint = (s.channel b).setpoint ∧ (e.channel b).referenced = (s.channel b).referenced ∧
          ((s.channel b).state = .following → (e.channel b).state = .idle) ∧
          ((s.channel b).state = .faulted →
            (e.channel b).state = .energizing ∧ (e.channel b).enableTimer = some 0 ∧ (e.channel b).readySeen = false) ∧
          ((s.channel b).state ≠ .following → (s.channel b).state ≠ .faulted → e.channel b = s.channel b)) ∧
        exec .enterHold s = .next (e.feed.notify (.stateReached faulted) (if faulted = 0 then 0x01 else 0x81)
          (runStateCode s.run.state))) ∧
      (s.run.requested = some .standby → ∃ t, exec .enterStandby s = .next t ∧
        t.run = { entered .standby with halt := none } ∧ t.planner = ⟨0, .none⟩ ∧
        t.lists = { Lists.initial with source := s.lists.source } ∧ t.player = { s.player with feedStopped := false } ∧
        t.referencing = none ∧ t.permitLine = { s.permitLine with due := true } ∧ t.tracker = s.tracker ∧
        t.machine = s.machine ∧ t.profiles = s.profiles ∧ t.assign = s.assign ∧ t.store = s.store ∧
        (∀ b, barExists b = true →
          (t.channel b).setpoint = (s.channel b).setpoint ∧
          ((s.channel b).state ≠ .absent → (t.channel b).state = .off ∧ (t.channel b).referenced = false) ∧
          ((s.channel b).state = .absent → s.anyJog = false → s.referencing = none → t.channel b = s.channel b)) ∧
        (∃ l, t.link = l.offer ⟨.stateReached faulted, if faulted = 0 then 0x00 else 0x80, runStateCode s.run.state, 0,
            s.tracker.angle⟩ ∧
          (s.anyJog = false → s.referencing = none → l = s.link))))

/-- ALIGNMENT_START and ENTER_RUN (R160 to R162, R134, R135, R81, R82): a machine fit for RUN asks every assigned channel to move to
its cam setpoint, from IDLE_REDUCED after energizing; when every one has reported that it is aligned the run state is RUN, STOP is
inactive, the successor is bound at or above ul_start, the channels follow, the computed permit is published and is the course
peak, and after STATE_REACHED the lists make their stopped check. -/
def Obligations.AlignmentLeadsIntoRun : Prop :=
  ∀ s : State, s.isHeld = false → s.Sized → s.run.state = .hold → s.run.requested = some .run →
    let coord (b : Nat) (ref : Int) (k : Nat) : Int := ref + (s.profile b).zeroOffset + k * s.machine.pitch
    let place (b : Nat) (ref : Int) (lap : BarLap) (ahead : Bool) : Int :=
      cam s.machine s.tracker.angle (coord b ref lap.front) (coord b ref lap.back)
        (coord b ref (match s.lists.successor.bind (·.lap b) with
          | some next => if ahead then next.front else lap.back
          | none => lap.back))
    (s.run.waiting = true → s.run.changing = false → s.tracker.sync = .locked → s.tracker.stopped = true →
      (∀ b ∈ s.assignedBars, (s.channel b).state.holding = true ∧ (s.channel b).referenced = true) →
      s.lists.current.isSome = true → (s.machine.ulStart ≤ s.tracker.angle → s.lists.successor.isSome = true) →
      s.player.search = none →
      ∃ t, exec .alignmentStart s = .next t ∧ t.run = { s.run with waiting := false, changing := true } ∧
        { t with run := s.run, channels := s.channels } = s ∧
        ∀ b, barExists b = true →
          (s.assigned b = false → t.channel b = s.channel b) ∧
          (∀ ref lap, s.assigned b = true → (s.channel b).refPoint = some ref →
            s.lists.current.bind (·.lap b) = some lap →
            let target := place b ref lap (s.machine.ulStart ≤ s.tracker.angle)
            let start := (s.channel b).setpoint
            (t.channel b).setpoint = start ∧ (t.channel b).referenced = true ∧ (t.channel b).aligned = false ∧
            (t.channel b).move = some ⟨start, target, moveTime (s.profile b) (target - start).natAbs, 0⟩ ∧
            (if (s.channel b).state = .idle then (t.channel b).state = .aligning
             else (t.channel b).state = .energizing ∧ (t.channel b).pendingMove = some .alignment ∧
               (t.channel b).energizeTimer = some 0))) ∧
    (s.run.changing = true →
      (∀ b ∈ s.assignedBars, (s.channel b).state = .aligning ∧ (s.channel b).aligned = true) →
      ∃ t, exec .enterRun s = .next t ∧ t.planner = planOf s.machine s.lists ∧
        t.run = { s.run with
          state := .run, requested := none, waiting := false, changing := false, published := t.planner.permit
          peak := t.planner.permit } ∧
        t.stopActive = false ∧ t.permitLine = { s.permitLine with due := true } ∧
        t.lists.current = s.lists.current ∧ t.lists.after = s.lists.after ∧ t.lists.history = s.lists.history ∧
        t.lists.bound =
          (s.lists.bound || (decide (s.machine.ulStart ≤ s.tracker.angle) && s.lists.successor.isSome)) ∧
        t.tracker = s.tracker ∧ t.machine = s.machine ∧ t.store = s.store ∧ t.player = s.player ∧
        (∀ b, barExists b = true →
          ((s.channel b).state = .absent → t.channel b = s.channel b) ∧
          (s.assigned b = true → (t.channel b).state = .following ∧
            (t.channel b).referenced = (s.channel b).referenced ∧
            (∀ ref lap, (s.channel b).refPoint = some ref → s.lists.current.bind (·.lap b) = some lap →
              s.lists.inStep = true → (t.channel b).setpoint = place b ref lap t.lists.bound))) ∧
        (let reached := s.link.offer ⟨.stateReached 0, 0x02, 0x01, s.currentTag, s.tracker.angle⟩
         (s.lists.successor.isSome = true → t.link = reached) ∧
         (∀ c, s.lists.successor = none → s.lists.current = some c → c.endMark = false → s.lists.inStep = true →
           s.tracker.stopped = true → s.tracker.sync = .locked → s.tracker.angle < s.machine.ulStart →
           s.lists.starvedMark = false →
           t.link = reached.offer ⟨.starved s.lists.source s.lists.history.length s.player.feedStopped, 0, 0,
             s.currentTag, s.tracker.angle⟩)))

/-- A cause reported to the run controller (R160, R161, R166 to R168, R171): in RUN it halts the machine, with the record, STOP, a
published permit of 0 and HALTED; in HALT it gives FURTHER_FAULT and changes nothing else; a channel fault ends a wait toward RUN
and, like a loss of sync, an alignment, with STATE_FAILED; with nothing requested it changes nothing. -/
def Obligations.AHaltKeepsItsFirstCause : Prop :=
  ([Cause.underrun, .overspeed, .syncLost, .encoderError, .reverseLimit, .barFollow, .driveFault, .driveLost].map causeCode =
    [0x01, 0x02, 0x03, 0x04, 0x05, 0x06, 0x07, 0x08]) ∧
  ∀ (cause : Cause) (detail bar : Nat) (s : State),
    let t := s.report cause detail bar
    let notice (report : Report) : Notice := ⟨report, causeCode cause, bar, s.currentTag, s.tracker.angle⟩
    let ofChannel := cause = .barFollow ∨ cause = .driveFault ∨ cause = .driveLost
    (s.run.state = .run →
      t.run = { s.run with
        state := .halt, published := 0
        halt := some ⟨cause, detail, bar, s.currentTag, s.tracker.angle, s.tracker.speed⟩ } ∧
      t.stopActive = true ∧ t.permitLine = { s.permitLine with due := true } ∧ t.lists = s.lists ∧ t.tracker = s.tracker ∧
      t.link = s.link.offer (notice (.halted detail s.tracker.speed 0 s.run.requested)) ∧
      ∀ b, barExists b = true →
        if (s.channel b).state = .following ∧ (s.tracker.stopped = true ∨ s.tracker.sync ≠ .locked) then
          (t.channel b).state = .idle ∧ (t.channel b).setpoint = (s.channel b).setpoint
        else t.channel b = s.channel b) ∧
    (s.run.state = .halt →
      t = { s with link := s.link.offer (notice (.furtherFault detail s.tracker.speed 0 s.run.requested)) }) ∧
    (s.run.state = .hold ∨ s.run.state = .standby → s.run.changing = false → s.run.waiting = false → t = s) ∧
    (s.run.state = .hold → s.run.changing = false → s.run.waiting = true → s.run.requested = some .run →
      (ofChannel → t = { s with
        run := { s.run with waiting := false, requested := none }
        link := s.link.offer (notice (.stateFailed .run false .hold detail)) }) ∧
      (¬ofChannel → t = s)) ∧
    (s.run.state = .hold → s.run.changing = true → s.run.requested = some .run →
      ofChannel ∨ cause = .syncLost ∨ cause = .encoderError →
      t.run = { s.run with waiting := false, changing := false, requested := none } ∧
      t.link = s.link.offer (notice (.stateFailed .run true .hold detail)) ∧
      ∀ b, barExists b = true →
        if (s.channel b).state = .aligning ∨
            ((s.channel b).state = .energizing ∧ (s.channel b).pendingMove = some .alignment) then
          (t.channel b).state = .idle ∧ (t.channel b).setpoint = (s.channel b).setpoint
        else t.channel b = s.channel b)

/-- PERMIT_FRAME (R155; 10, R190): a frame that has fallen due is sent once the line is free, with the published permit, STOP and the
run state as they then stand and the CRC over its three bytes; with none due nothing happens (log 7, 19). The clock moves on to
the line's end (log 1), which is the line time after the frame's beginning (log 15). -/
def Obligations.PermitFrameCarriesTheValues : Prop :=
  ∀ s : State, s.Quiet →
    (s.permitLine.due = false → exec .permitFrame s = .next s) ∧
    (s.permitLine.due = true →
      let code : Nat := match s.run.state with | .standby => 0 | .hold => 1 | .run => 2 | .halt => 3
      let body : List Byte := [byteOf (s.run.published / 256), byteOf s.run.published,
        byteOf ((if s.run.state = .run then 0 else 1) + 16 * code)]
      let now := max s.now s.permitLine.busyUntil
      exec .permitFrame s = .next { s with
        now := now
        permitLine := ⟨false, [0x5A] ++ body ++ beBytes 2 (crc body).toNat, now + (60 + s.link.rate - 1) / s.link.rate⟩ })

/-! ### The shaft (01) -/

/-- ENCODER_COUNT and ENCODER_ERROR (R1, R3 to R6, R12, R13, R16): the circle of level pairs; a count moves the angle by 1 modulo
4,000, sets the direction, makes the shaft MOVING and restarts the stop timer; in LOCKED a wrap is a crossing, which moves the lists in
RUN and HALT and leaves them in STANDBY and HOLD (05, R76, R77, R79), and a passage of ul_start an underlap event; an error ends the
sync and halts a machine in RUN. The arrival binds the successor, or reports UNDERRUN once; the departure unbinds (05, R80, R81, R83).
A forward crossing in RUN with a measured speed above the peak and the margin halts with OVERSPEED (09, R169; which of it and the
lists' moves is first is open, log 8). FOLLOWING channels take the cam after the event (07, R130). A shaft that leaves STOPPED, and an
error, end the jogs and the referencing with SHAFT_MOVED (08, R146, R151; which notices are first: log 9), and the shaft's leaving ends
an alignment with STATE_FAILED (09, R161). The time since the step before is the operand's (log 1). -/
def Obligations.CountsMoveTheAngle : Prop :=
  ((let circle : List Levels := [⟨false, false⟩, ⟨true, false⟩, ⟨true, true⟩, ⟨false, true⟩]
     ∀ i, i < 4 → ∀ x y : Levels, circle[i]? = some x → circle[(i + 1) % 4]? = some y →
      transition x y = .forward ∧ transition y x = .backward ∧ transition x x = .none ∧ transition x ⟨!x.a, !x.b⟩ = .error) ∧
    (∀ (lv : Levels) (dt : Nat) (s : State), s.Quiet →
      let k := s.tracker
      let now := s.now + dt
      (transition k.levels lv = .none → exec (.encoderCount lv dt) s = .next { s with now := now }) ∧
      (transition k.levels lv = .error → exec (.encoderCount lv dt) s = exec (.encoderError dt) s) ∧
      (∀ d : Direction, transition k.levels lv = (match d with | .forward => .forward | .backward => .backward) →
        ∃ t, exec (.encoderCount lv dt) s = .next t ∧ t.now = now ∧ t.tracker.levels = lv ∧ t.tracker.direction = d ∧
          t.tracker.angle = (match d with | .forward => (k.angle + 1) % 4000 | .backward => (k.angle + 3999) % 4000) ∧
          t.tracker.stopped = false ∧ t.tracker.countedAt = now ∧
          t.tracker.sync = (if k.sync = .noSignal then .seekingIndex else k.sync) ∧
          (k.sync = .checking → t.tracker.travel =
            (let x := match d with | .forward => k.travel + 1 | .backward => k.travel - 1
             if x.natAbs ≤ 65535 then x else k.travel)) ∧
          (d = .backward → t.tracker.valid = false) ∧
          (k.sync ≠ .locked → k.stopped = false →
            { t with now := s.now, tracker := k, link := s.link } = s ∧
            t.link = if k.sync = .noSignal then s.link.offer
              ⟨.syncChange .noSignal .firstCount k.angle, 0x01, 0, s.currentTag, t.tracker.angle⟩ else s.link) ∧
          (k.sync = .locked →
            (d = .forward → k.angle = 3999 →
              t.tracker.courseStart = some now ∧ t.tracker.valid = true ∧ t.tracker.side = some .lower ∧
              t.tracker.speed = (match k.courseStart with
                | some c => if k.valid then some (min 65535 (60000000 / max 1 (min 4294967295 (now - c)))) else none
                | none => none) ∧
              t.permitLine.due = true ∧ t.run.peak = t.run.published) ∧
            (d = .backward → k.angle = 0 → t.tracker.side = some .upper) ∧
            (d = .forward → k.angle < 3999 → k.angle + 1 = s.machine.ulStart → t.tracker.side = some .upper) ∧
            (d = .backward → 0 < k.angle → k.angle = s.machine.ulStart → t.tracker.side = some .lower)))) ∧
    (∀ (dt : Nat) (s : State), s.Quiet →
      let k := s.tracker
      let lost := k.sync = .locked
      let speed := if lost then none else k.speed
      let changed := if k.sync = .noSignal then s.link else
        s.link.offer ⟨.syncChange k.sync .encoderError k.angle, 0x00, 0, s.currentTag, k.angle⟩
      ∃ t, exec (.encoderError dt) s = .next t ∧ t.now = s.now + dt ∧ t.referencing = none ∧
        t.tracker = { k with
          levels := ⟨!k.levels.a, !k.levels.b⟩, sync := .noSignal, travel := if k.sync = .noSignal then k.travel else 0
          courseStart := if lost then none else k.courseStart, speed := speed, side := if lost then none else k.side } ∧
        (s.anyJog = false → s.referencing = none →
          (s.run.state = .run → t.run.state = .halt ∧
            t.run.halt = some ⟨.encoderError, 0, 0, s.currentTag, k.angle, speed⟩ ∧
            t.link = changed.offer ⟨.halted 0 speed 0 s.run.requested, 0x04, 0, s.currentTag, k.angle⟩) ∧
          (s.run.state = .halt → t.run = s.run ∧
            t.link = changed.offer ⟨.furtherFault 0 speed 0 s.run.requested, 0x04, 0, s.currentTag, k.angle⟩) ∧
          (s.run.state = .standby ∨ s.run.state = .hold → s.run.changing = false → t.run = s.run ∧ t.link = changed)))) ∧
  (∀ (lv : Levels) (dt : Nat) (s : State), s.Quiet → s.Sized → s.tracker.sync = .locked → s.tracker.stopped = false →
      let k := s.tracker
      let l := s.lists
      let m := s.machine
      let now := s.now + dt
      let follows : Prop := s.run.state = .run ∨ s.run.state = .halt
      (transition k.levels lv = .forward → k.angle < 3999 → k.angle + 1 ≠ m.ulStart →
        ∃ t, exec (.encoderCount lv dt) s = .next t ∧ t.lists = l ∧ t.run = s.run ∧ t.link = s.link ∧
          ∀ b ref c lap, barExists b = true → (s.channel b).state = .following → (s.channel b).refPoint = some ref →
            l.inStep = true → l.current = some c → c.lap b = some lap →
            let place : Nat → Int := fun i => ref + (s.profile b).zeroOffset + i * m.pitch
            (l.bound = false → (t.channel b).setpoint =
              cam m (k.angle + 1) (place lap.front) (place lap.back) (place lap.back)) ∧
            (∀ n next, l.bound = true → l.successor = some n → n.lap b = some next → (t.channel b).setpoint =
              cam m (k.angle + 1) (place lap.front) (place lap.back) (place next.front))) ∧
      (transition k.levels lv = .forward → k.angle < 3999 → k.angle + 1 = m.ulStart →
        ∃ t, exec (.encoderCount lv dt) s = .next t ∧
          (¬follows ∨ l.inStep = false → t.lists = l ∧ t.run = s.run ∧ t.link = s.link) ∧
          (follows → l.inStep = true →
            (l.successor.isSome = true → t.lists = { l with bound := true } ∧ t.run = s.run ∧ t.link = s.link) ∧
            (∀ c, l.successor = none → l.current = some c →
              (c.endMark = true ∨ l.underrunMark = true → t.lists = l ∧ t.run = s.run ∧ t.link = s.link) ∧
              (c.endMark = false → l.underrunMark = false → t.lists = { l with underrunMark := true } ∧
                (s.run.state = .run → t.run.state = .halt ∧ t.run.published = 0 ∧
                  t.run.halt = some ⟨.underrun, 0, 0, c.tag, m.ulStart, k.speed⟩ ∧
                  t.link = s.link.offer ⟨.halted 0 k.speed 0 s.run.requested, 0x01, 0, c.tag, m.ulStart⟩) ∧
                (s.run.state = .halt → t.run = s.run ∧
                  t.link = s.link.offer ⟨.furtherFault 0 k.speed 0 s.run.requested, 0x01, 0, c.tag, m.ulStart⟩))))) ∧
      (transition k.levels lv = .backward → 0 < k.angle → k.angle = m.ulStart →
        ∃ t, exec (.encoderCount lv dt) s = .next t ∧ t.run = s.run ∧ t.link = s.link ∧
          (follows → t.lists = { l with bound := false }) ∧ (¬follows → t.lists = l)) ∧
      (transition k.levels lv = .forward → k.angle = 3999 →
        let speed : Option Nat := match k.courseStart with
          | some c => if k.valid then some (min 65535 (60000000 / max 1 (min 4294967295 (now - c)))) else none
          | none => none
        ∃ t, exec (.encoderCount lv dt) s = .next t ∧
          (s.run.state ≠ .run → t.run.state = s.run.state ∧ t.run.halt = s.run.halt) ∧
          (∀ v, s.run.state = .run → speed = some v → s.run.peak + m.margin < v → t.run.state = .halt ∧
            ∃ h, t.run.halt = some h ∧ (h.cause = .overspeed ∨ h.cause = .underrun)) ∧
          (∀ c n, s.run.state = .run → l.source = .stream → l.inStep = true → l.bound = true → l.current = some c →
            l.successor = some n →
            (∀ v, speed = some v → s.run.peak + m.margin < v →
              ∃ tag, (tag = c.tag ∨ tag = n.tag) ∧ t.run.halt = some ⟨.overspeed, 0, 0, tag, 0, some v⟩ ∧
                t.link = s.link.offer ⟨.halted 0 (some v) s.run.peak s.run.requested, 0x02, 0, tag, 0⟩) ∧
            (speed = none ∨ (∃ v, speed = some v ∧ v ≤ s.run.peak + m.margin) →
              t.run.state = .run ∧ t.run.halt = s.run.halt ∧ t.link = s.link)))) ∧
  (∀ (lv : Levels) (dt : Nat) (d : Direction) (s : State), s.Quiet → s.Sized →
      transition s.tracker.levels lv = (match d with | .forward => .forward | .backward => .backward) →
      let k := s.tracker
      let m := s.machine
      let now := s.now + dt
      let out := exec (.encoderCount lv dt) s
      let angle := match d with | .forward => (k.angle + 1) % 4000 | .backward => (k.angle + 3999) % 4000
      let net : Int := match d with | .forward => k.travel + 1 | .backward => k.travel - 1
      let u : State := { s with
        now := now
        tracker := { k with
          levels := lv, angle := angle, direction := d, stopped := false, countedAt := now
          sync := if k.sync = .noSignal then .seekingIndex else k.sync
          travel := if k.sync = .noSignal then 0 else if k.sync = .checking ∧ net.natAbs ≤ 65535 then net else k.travel
          valid := if d = .backward then false else k.valid }
        link := if k.sync = .noSignal
          then s.link.offer ⟨.syncChange .noSignal .firstCount k.angle, 0x01, 0, s.currentTag, angle⟩ else s.link }
      let aligning : Prop := s.run.changing = true ∧ s.run.requested = some .run
      ∃ e v : State,
        (k.stopped = false → e = u) ∧ (k.stopped = true → u.MotionsMoved e) ∧
        (k.stopped = false ∨ ¬aligning → v = e) ∧
        (k.stopped = true → aligning →
          v = { e with
            channels := v.channels, run := { s.run with waiting := false, changing := false, requested := none }
            link := e.link.offer ⟨.stateFailed .run true s.run.state 0, 0x09, 0, s.currentTag, angle⟩ } ∧
          ∀ b, barExists b = true →
            let c := e.channel b
            v.channel b = if c.state = .aligning ∨ (c.state = .energizing ∧ c.pendingMove = some .alignment) then c.rested m
              else c) ∧
        (k.sync ≠ .locked → out = .next v) ∧
        (k.sync = .locked →
          (d = .forward →
            (k.angle = 3999 → ∃ t, v.CrossesForward t ∧ out = .next t.follow) ∧
            (k.angle < 3999 → k.angle + 1 = m.ulStart → ∃ t, v.PassesUnderlap t .forward ∧ out = .next t.follow) ∧
            (k.angle < 3999 → k.angle + 1 ≠ m.ulStart → out = .next v.follow)) ∧
          (d = .backward →
            (k.angle = 0 → ∃ t, v.CrossesBackward t ∧ out = .next t.follow) ∧
            (0 < k.angle → k.angle = m.ulStart → ∃ t, v.PassesUnderlap t .backward ∧ out = .next t.follow) ∧
            (0 < k.angle → k.angle ≠ m.ulStart → out = .next v.follow)))) ∧
  (∀ (dt : Nat) (s : State), s.Quiet → s.Sized →
      let k := s.tracker
      let lost : Prop := k.sync = .locked
      ∃ u t : State,
        u = { s with
          now := s.now + dt
          tracker := { k with
            levels := ⟨!k.levels.a, !k.levels.b⟩, sync := .noSignal, travel := if k.sync = .noSignal then k.travel else 0
            courseStart := if lost then none else k.courseStart, speed := if lost then none else k.speed
            side := if lost then none else k.side }
          link := if k.sync = .noSignal then s.link
            else s.link.offer ⟨.syncChange k.sync .encoderError k.angle, 0x00, 0, s.currentTag, k.angle⟩
          channels := u.channels } ∧
        (∀ b, barExists b = true →
          u.channel b = if lost ∧ (s.channel b).state = .following then (s.channel b).rested s.machine else s.channel b) ∧
        (u.report .encoderError 0 0).MotionsMoved t ∧ exec (.encoderError dt) s = .next t)

/-- INDEX_ARRIVAL (R5 to R10, R14): ignored in NO_SIGNAL; in SEEKING_INDEX the angle is set and the check begins; in CHECKING the three
cases of R8; in LOCKED nothing at distance 0, a correction within the tolerance, and beyond it the lock is lost, which halts a machine
in RUN after its SYNC_CHANGE. A correction raises the crossing or underlap event that it passes, with what that does at the lists (05,
R76 to R81; an OVERSPEED at the crossing: log 8), and then the FOLLOWING channels take the cam (07, R130): on a STOPPED shaft whose
event halts the machine those channels are in IDLE first (the model's choice, log 31). The time since the step before is the
operand's (log 1). -/
def Obligations.IndexArrivalsAreJudgedByState : Prop :=
  ∀ (dt : Nat) (s : State), s.Quiet → s.AngleSound →
    let k := s.tracker
    let i := s.machine.indexAngle
    let gap := if k.angle ≤ i then i - k.angle else k.angle - i
    let distance := min gap (4000 - gap)
    let out := exec (.indexArrival dt) s
    let t0 : State := { s with now := s.now + dt }
    (k.sync = .noSignal → out = .next t0) ∧
    (k.sync = .seekingIndex → out = .next { t0 with
      tracker := { k with sync := .checking, angle := i, travel := 0 }
      link := s.link.offer ⟨.syncChange .seekingIndex .indexFound k.angle, 0x02, 0, s.currentTag, i⟩ }) ∧
    (k.sync = .checking →
      (distance ≤ s.machine.tolerance → 4000 - s.machine.tolerance ≤ k.travel.natAbs → out = .next { t0 with
        tracker := { k with
          sync := .locked, angle := i, side := some (if s.machine.ulStart ≤ i then .upper else .lower) }
        link := s.link.offer ⟨.syncChange .checking .indexConfirmed k.angle, 0x03, 0, s.currentTag, i⟩ }) ∧
      (distance ≤ s.machine.tolerance → k.travel.natAbs < 4000 - s.machine.tolerance → out = .next t0) ∧
      (s.machine.tolerance < distance → out = .next { t0 with tracker := { k with angle := i, travel := 0 } })) ∧
    (k.sync = .locked →
      (distance = 0 → out = .next t0) ∧
      (1 ≤ distance → distance ≤ s.machine.tolerance →
        ∃ t, out = .next t ∧ t.tracker.angle = i ∧ t.tracker.sync = .locked ∧ t.tracker.direction = k.direction ∧
          t.tracker.stopped = k.stopped ∧ t.tracker.countedAt = k.countedAt ∧ t.tracker.levels = k.levels ∧
          (i < k.angle → 2000 < gap → t.tracker.courseStart = some (s.now + dt) ∧ t.tracker.valid = true ∧
            t.tracker.side = some .lower ∧ t.permitLine.due = true) ∧
          (k.angle < i → 2000 < gap → t.tracker.valid = false ∧ t.tracker.side = some .upper) ∧
          (let v : State := { t0 with tracker := { k with angle := i } }
           let ul := s.machine.ulStart
           (i < k.angle → 2000 < gap → ∃ x, v.CrossesForward x ∧ t = x.follow) ∧
           (k.angle < i → 2000 < gap → ∃ x, v.CrossesBackward x ∧ t = x.follow) ∧
           (gap < 2000 → k.angle < ul → ul ≤ i → ∃ x, v.PassesUnderlap x .forward ∧ t = x.follow) ∧
           (gap < 2000 → i < ul → ul ≤ k.angle → ∃ x, v.PassesUnderlap x .backward ∧ t = x.follow) ∧
           (gap < 2000 → (k.angle < ul ↔ i < ul) → t = v.follow))) ∧
      (s.machine.tolerance < distance →
        ∃ t, out = .next t ∧ t.lists = s.lists ∧
          t.tracker = { k with
            sync := .checking, angle := i, travel := 0, courseStart := none, speed := none, side := none } ∧
          (∀ b, barExists b = true → (s.channel b).state = .following →
            (t.channel b).state = .idle ∧ (t.channel b).setpoint = (s.channel b).setpoint) ∧
          (s.run.state = .run → t.run.state = .halt ∧
            t.run.halt = some ⟨.syncLost, 0, 0, s.currentTag, i, none⟩ ∧
            t.link = (s.link.offer ⟨.syncChange .locked .indexMismatch k.angle, 0x02, 0, s.currentTag, i⟩).offer
              ⟨.halted 0 none 0 s.run.requested, 0x03, 0, s.currentTag, i⟩)))

/-- STOP_DETECT (R15, R82, R136): not before the stop-detect time has passed since the last count, a MOVING shaft is STOPPED; in STANDBY
and HOLD nothing else changes; in RUN a current record without a successor below ul_start is reported STARVED; in HALT the coasting
channels go to IDLE. A STOPPED shaft stays as it is (log 7; the clock: log 1). -/
def Obligations.TheStopTimerStopsTheShaft : Prop :=
  ∀ s : State, s.Quiet →
    let stopped : State := { s with
      now := max s.now (s.tracker.countedAt + 1000 * s.machine.stopDetect), tracker := { s.tracker with stopped := true } }
    (s.tracker.stopped = true → exec .stopDetect s = .next s) ∧
    (s.tracker.stopped = false →
      (s.run.state = .standby ∨ s.run.state = .hold ∨ (s.run.state = .run ∧ s.lists.successor.isSome = true) →
        exec .stopDetect s = .next stopped) ∧
      (∀ c, s.run.state = .run → s.tracker.sync = .locked → s.tracker.angle < s.machine.ulStart →
        s.lists.inStep = true → s.lists.current = some c → s.lists.successor = none → c.endMark = false →
        s.lists.starvedMark = false →
        exec .stopDetect s = .next { stopped with
          lists := { s.lists with starvedMark := true }
          link := s.link.offer ⟨.starved s.lists.source s.lists.history.length s.player.feedStopped, 0, 0,
            s.currentTag, s.tracker.angle⟩ }) ∧
      (s.run.state = .halt →
        ∃ t, exec .stopDetect s = .next t ∧ { t with channels := s.channels } = stopped ∧
          ∀ b, barExists b = true → if (s.channel b).state = .following then
              (t.channel b).state = .idle ∧ (t.channel b).setpoint = (s.channel b).setpoint ∧
              (t.channel b).referenced = (s.channel b).referenced
            else t.channel b = s.channel b))

/-! ### What every step keeps -/

/-- The state after reset is sound in every respect that the next three statements name. -/
def Obligations.ResetIsSound : Prop :=
  State.reset.Sized ∧ State.reset.AngleSound ∧ State.reset.NoticesSound ∧ State.reset.BufferSound ∧ State.reset.RequestSound ∧
    State.reset.PermitSound ∧ State.reset.ListsSound ∧ State.reset.StoreSound ∧ State.reset.Standing

/-- Every step keeps the tables at their sizes, the angle and the index angle within 0 to 3,999, the notice queue within 32 records
with one DRIVE_CHANGE a bar at most, and the receive buffer within its two places (R1, R123, R177, R182). -/
def Obligations.EveryStepKeepsTheTables : Prop :=
  ∀ s t : State, step s = .next t → s.Sized → s.AngleSound → s.NoticesSound → s.BufferSound →
    t.Sized ∧ t.AngleSound ∧ t.NoticesSound ∧ t.BufferSound

/-- Every step keeps what R152 says of the request flags and R154 of the published permit, and keeps the lists within their places
(05, R73). -/
def Obligations.EveryStepKeepsTheRunControl : Prop :=
  ∀ s t : State, step s = .next t → s.RequestSound → s.PermitSound → s.ListsSound →
    t.RequestSound ∧ t.PermitSound ∧ t.ListsSound ∧ t.Standing

/-- Every step keeps the pattern store sound (R33, R35, R40): the free cells and the cells of the blocks are the whole store, and
the check queue names CHECKING blocks alone, none twice. -/
def Obligations.EveryStepKeepsTheStore : Prop :=
  ∀ s t : State, step s = .next t → s.Sized → s.StoreSound → t.Sized ∧ t.StoreSound

/-! ### What commands leave alone -/

/-- A drive command changes its own channel, the referencing record, the notices and, through a fault, the run controller and the
permit; everything else stays, and the other channels too while the run controller does not act (R118 to R124, R167). -/
def Obligations.DriveCommandsLeaveTheOtherBlocks : Prop :=
  ∀ (c : Instr) (b : Nat) (s t : State), s.Quiet →
    (c = .exchange b ∨ c = .driveLost b ∨ c = .enableTimeout b ∨ c = .energizeTimeEnd b ∨ c = .holdDelayExpiry b ∨
      c = .jogTargetReached b ∨ c = .settleTimeout b ∨ c = .zeroMoveComplete b ∨ c = .aligned b ∨
      ∃ line bytes d, c = .statusFrame line bytes ∧ parseStatus bytes = some (b, d)) →
    exec c s = .next t →
    t.pending = s.pending ∧ t.power = s.power ∧ t.tracker = s.tracker ∧ t.machine = s.machine ∧ t.profiles = s.profiles ∧
    t.assign = s.assign ∧ t.store = s.store ∧ t.player = s.player ∧ t.lists = s.lists ∧
    t.link = { s.link with notices := t.link.notices, overflow := t.link.overflow } ∧
    t.run.badRequest = s.run.badRequest ∧ t.run.peak = s.run.peak ∧ t.run.resetCause = s.run.resetCause ∧
    (t.run = s.run → t.permitLine = s.permitLine ∧ ∀ x, barExists x = true → x ≠ b → t.channel x = s.channel x)

/-- Settings, stored cells and the tracker change by their own commands alone (02, R19, R25, R28; 03, R37, R39, R42, R45; 01): with no
other request waiting and no reset owed, a command of another kind leaves them; the player moves pins alone in the store. -/
def Obligations.OnlyItsCommandsChangeABlock : Prop :=
  ∀ (c : Instr) (s t : State), s.link.resetOwed = none → s.PortFree → exec c s = .next t →
    (∀ v stop dt, c ≠ .byteReceived v stop dt) → (∀ r1 r0, c ≠ .powerOn r1 r0) → c ≠ .pinReset →
    ((∀ tag m, c ≠ .setMachine tag m) → t.machine = s.machine) ∧
    ((∀ tag n p, c ≠ .setProfile tag n p) → t.profiles = s.profiles) ∧
    ((∀ tag es, c ≠ .assignBars tag es) → t.assign = s.assign) ∧
    ((∀ tag id n bars, c ≠ .defineBlock tag id n bars) → (∀ tag id n cells, c ≠ .blockData tag id n cells) →
      (∀ tag id, c ≠ .dropBlock tag id) → c ≠ .checkComplete →
      t.store.free = s.store.free ∧ t.store.checkQueue = s.store.checkQueue ∧
      ∀ id, { t.block id with pins := 0 } = { s.block id with pins := 0 }) ∧
    ((∀ lv dt, c ≠ .encoderCount lv dt) → (∀ dt, c ≠ .encoderError dt) → (∀ dt, c ≠ .indexArrival dt) → c ≠ .stopDetect →
      (∀ tag m, c ≠ .setMachine tag m) → (∀ lv, c ≠ .resetRelease lv) → t.tracker = s.tracker)
end

