-- ==== Sys2Proof/Laws/State.lean ====
section
/-! SUPPORT. What each update of the state does to each field: one lemma for each field and update, true by unfolding. -/

namespace Sys2Proof.Machine

/-! ### updTracker -/

@[simp] theorem State.updTracker_pending (s : State) (f : Tracker → Tracker) :
    (s.updTracker f).pending = s.pending := rfl
@[simp] theorem State.updTracker_now (s : State) (f : Tracker → Tracker) : (s.updTracker f).now = s.now := rfl
@[simp] theorem State.updTracker_draws (s : State) (f : Tracker → Tracker) : (s.updTracker f).draws = s.draws := rfl
@[simp] theorem State.updTracker_power (s : State) (f : Tracker → Tracker) : (s.updTracker f).power = s.power := rfl
@[simp] theorem State.updTracker_tracker (s : State) (f : Tracker → Tracker) :
    (s.updTracker f).tracker = f s.tracker := rfl
@[simp] theorem State.updTracker_machine (s : State) (f : Tracker → Tracker) :
    (s.updTracker f).machine = s.machine := rfl
@[simp] theorem State.updTracker_profiles (s : State) (f : Tracker → Tracker) :
    (s.updTracker f).profiles = s.profiles := rfl
@[simp] theorem State.updTracker_assign (s : State) (f : Tracker → Tracker) :
    (s.updTracker f).assign = s.assign := rfl
@[simp] theorem State.updTracker_store (s : State) (f : Tracker → Tracker) : (s.updTracker f).store = s.store := rfl
@[simp] theorem State.updTracker_player (s : State) (f : Tracker → Tracker) :
    (s.updTracker f).player = s.player := rfl
@[simp] theorem State.updTracker_lists (s : State) (f : Tracker → Tracker) : (s.updTracker f).lists = s.lists := rfl
@[simp] theorem State.updTracker_planner (s : State) (f : Tracker → Tracker) :
    (s.updTracker f).planner = s.planner := rfl
@[simp] theorem State.updTracker_channels (s : State) (f : Tracker → Tracker) :
    (s.updTracker f).channels = s.channels := rfl
@[simp] theorem State.updTracker_referencing (s : State) (f : Tracker → Tracker) :
    (s.updTracker f).referencing = s.referencing := rfl
@[simp] theorem State.updTracker_run (s : State) (f : Tracker → Tracker) : (s.updTracker f).run = s.run := rfl
@[simp] theorem State.updTracker_permitLine (s : State) (f : Tracker → Tracker) :
    (s.updTracker f).permitLine = s.permitLine := rfl
@[simp] theorem State.updTracker_link (s : State) (f : Tracker → Tracker) : (s.updTracker f).link = s.link := rfl

/-! ### updStore -/

@[simp] theorem State.updStore_pending (s : State) (f : Store → Store) : (s.updStore f).pending = s.pending := rfl
@[simp] theorem State.updStore_now (s : State) (f : Store → Store) : (s.updStore f).now = s.now := rfl
@[simp] theorem State.updStore_draws (s : State) (f : Store → Store) : (s.updStore f).draws = s.draws := rfl
@[simp] theorem State.updStore_power (s : State) (f : Store → Store) : (s.updStore f).power = s.power := rfl
@[simp] theorem State.updStore_tracker (s : State) (f : Store → Store) : (s.updStore f).tracker = s.tracker := rfl
@[simp] theorem State.updStore_machine (s : State) (f : Store → Store) : (s.updStore f).machine = s.machine := rfl
@[simp] theorem State.updStore_profiles (s : State) (f : Store → Store) : (s.updStore f).profiles = s.profiles := rfl
@[simp] theorem State.updStore_assign (s : State) (f : Store → Store) : (s.updStore f).assign = s.assign := rfl
@[simp] theorem State.updStore_store (s : State) (f : Store → Store) : (s.updStore f).store = f s.store := rfl
@[simp] theorem State.updStore_player (s : State) (f : Store → Store) : (s.updStore f).player = s.player := rfl
@[simp] theorem State.updStore_lists (s : State) (f : Store → Store) : (s.updStore f).lists = s.lists := rfl
@[simp] theorem State.updStore_planner (s : State) (f : Store → Store) : (s.updStore f).planner = s.planner := rfl
@[simp] theorem State.updStore_channels (s : State) (f : Store → Store) : (s.updStore f).channels = s.channels := rfl
@[simp] theorem State.updStore_referencing (s : State) (f : Store → Store) :
    (s.updStore f).referencing = s.referencing := rfl
@[simp] theorem State.updStore_run (s : State) (f : Store → Store) : (s.updStore f).run = s.run := rfl
@[simp] theorem State.updStore_permitLine (s : State) (f : Store → Store) :
    (s.updStore f).permitLine = s.permitLine := rfl
@[simp] theorem State.updStore_link (s : State) (f : Store → Store) : (s.updStore f).link = s.link := rfl

/-! ### updPlayer -/

@[simp] theorem State.updPlayer_pending (s : State) (f : Player → Player) : (s.updPlayer f).pending = s.pending := rfl
@[simp] theorem State.updPlayer_now (s : State) (f : Player → Player) : (s.updPlayer f).now = s.now := rfl
@[simp] theorem State.updPlayer_draws (s : State) (f : Player → Player) : (s.updPlayer f).draws = s.draws := rfl
@[simp] theorem State.updPlayer_power (s : State) (f : Player → Player) : (s.updPlayer f).power = s.power := rfl
@[simp] theorem State.updPlayer_tracker (s : State) (f : Player → Player) : (s.updPlayer f).tracker = s.tracker := rfl
@[simp] theorem State.updPlayer_machine (s : State) (f : Player → Player) : (s.updPlayer f).machine = s.machine := rfl
@[simp] theorem State.updPlayer_profiles (s : State) (f : Player → Player) :
    (s.updPlayer f).profiles = s.profiles := rfl
@[simp] theorem State.updPlayer_assign (s : State) (f : Player → Player) : (s.updPlayer f).assign = s.assign := rfl
@[simp] theorem State.updPlayer_store (s : State) (f : Player → Player) : (s.updPlayer f).store = s.store := rfl
@[simp] theorem State.updPlayer_player (s : State) (f : Player → Player) : (s.updPlayer f).player = f s.player := rfl
@[simp] theorem State.updPlayer_lists (s : State) (f : Player → Player) : (s.updPlayer f).lists = s.lists := rfl
@[simp] theorem State.updPlayer_planner (s : State) (f : Player → Player) : (s.updPlayer f).planner = s.planner := rfl
@[simp] theorem State.updPlayer_channels (s : State) (f : Player → Player) :
    (s.updPlayer f).channels = s.channels := rfl
@[simp] theorem State.updPlayer_referencing (s : State) (f : Player → Player) :
    (s.updPlayer f).referencing = s.referencing := rfl
@[simp] theorem State.updPlayer_run (s : State) (f : Player → Player) : (s.updPlayer f).run = s.run := rfl
@[simp] theorem State.updPlayer_permitLine (s : State) (f : Player → Player) :
    (s.updPlayer f).permitLine = s.permitLine := rfl
@[simp] theorem State.updPlayer_link (s : State) (f : Player → Player) : (s.updPlayer f).link = s.link := rfl

/-! ### updLists -/

@[simp] theorem State.updLists_pending (s : State) (f : Lists → Lists) : (s.updLists f).pending = s.pending := rfl
@[simp] theorem State.updLists_now (s : State) (f : Lists → Lists) : (s.updLists f).now = s.now := rfl
@[simp] theorem State.updLists_draws (s : State) (f : Lists → Lists) : (s.updLists f).draws = s.draws := rfl
@[simp] theorem State.updLists_power (s : State) (f : Lists → Lists) : (s.updLists f).power = s.power := rfl
@[simp] theorem State.updLists_tracker (s : State) (f : Lists → Lists) : (s.updLists f).tracker = s.tracker := rfl
@[simp] theorem State.updLists_machine (s : State) (f : Lists → Lists) : (s.updLists f).machine = s.machine := rfl
@[simp] theorem State.updLists_profiles (s : State) (f : Lists → Lists) : (s.updLists f).profiles = s.profiles := rfl
@[simp] theorem State.updLists_assign (s : State) (f : Lists → Lists) : (s.updLists f).assign = s.assign := rfl
@[simp] theorem State.updLists_store (s : State) (f : Lists → Lists) : (s.updLists f).store = s.store := rfl
@[simp] theorem State.updLists_player (s : State) (f : Lists → Lists) : (s.updLists f).player = s.player := rfl
@[simp] theorem State.updLists_lists (s : State) (f : Lists → Lists) : (s.updLists f).lists = f s.lists := rfl
@[simp] theorem State.updLists_planner (s : State) (f : Lists → Lists) : (s.updLists f).planner = s.planner := rfl
@[simp] theorem State.updLists_channels (s : State) (f : Lists → Lists) : (s.updLists f).channels = s.channels := rfl
@[simp] theorem State.updLists_referencing (s : State) (f : Lists → Lists) :
    (s.updLists f).referencing = s.referencing := rfl
@[simp] theorem State.updLists_run (s : State) (f : Lists → Lists) : (s.updLists f).run = s.run := rfl
@[simp] theorem State.updLists_permitLine (s : State) (f : Lists → Lists) :
    (s.updLists f).permitLine = s.permitLine := rfl
@[simp] theorem State.updLists_link (s : State) (f : Lists → Lists) : (s.updLists f).link = s.link := rfl

/-! ### updRun -/

@[simp] theorem State.updRun_pending (s : State) (f : RunControl → RunControl) :
    (s.updRun f).pending = s.pending := rfl
@[simp] theorem State.updRun_now (s : State) (f : RunControl → RunControl) : (s.updRun f).now = s.now := rfl
@[simp] theorem State.updRun_draws (s : State) (f : RunControl → RunControl) : (s.updRun f).draws = s.draws := rfl
@[simp] theorem State.updRun_power (s : State) (f : RunControl → RunControl) : (s.updRun f).power = s.power := rfl
@[simp] theorem State.updRun_tracker (s : State) (f : RunControl → RunControl) :
    (s.updRun f).tracker = s.tracker := rfl
@[simp] theorem State.updRun_machine (s : State) (f : RunControl → RunControl) :
    (s.updRun f).machine = s.machine := rfl
@[simp] theorem State.updRun_profiles (s : State) (f : RunControl → RunControl) :
    (s.updRun f).profiles = s.profiles := rfl
@[simp] theorem State.updRun_assign (s : State) (f : RunControl → RunControl) : (s.updRun f).assign = s.assign := rfl
@[simp] theorem State.updRun_store (s : State) (f : RunControl → RunControl) : (s.updRun f).store = s.store := rfl
@[simp] theorem State.updRun_player (s : State) (f : RunControl → RunControl) : (s.updRun f).player = s.player := rfl
@[simp] theorem State.updRun_lists (s : State) (f : RunControl → RunControl) : (s.updRun f).lists = s.lists := rfl
@[simp] theorem State.updRun_planner (s : State) (f : RunControl → RunControl) :
    (s.updRun f).planner = s.planner := rfl
@[simp] theorem State.updRun_channels (s : State) (f : RunControl → RunControl) :
    (s.updRun f).channels = s.channels := rfl
@[simp] theorem State.updRun_referencing (s : State) (f : RunControl → RunControl) :
    (s.updRun f).referencing = s.referencing := rfl
@[simp] theorem State.updRun_run (s : State) (f : RunControl → RunControl) : (s.updRun f).run = f s.run := rfl
@[simp] theorem State.updRun_permitLine (s : State) (f : RunControl → RunControl) :
    (s.updRun f).permitLine = s.permitLine := rfl
@[simp] theorem State.updRun_link (s : State) (f : RunControl → RunControl) : (s.updRun f).link = s.link := rfl

/-! ### updPermitLine -/

@[simp] theorem State.updPermitLine_pending (s : State) (f : PermitLine → PermitLine) :
    (s.updPermitLine f).pending = s.pending := rfl
@[simp] theorem State.updPermitLine_now (s : State) (f : PermitLine → PermitLine) :
    (s.updPermitLine f).now = s.now := rfl
@[simp] theorem State.updPermitLine_draws (s : State) (f : PermitLine → PermitLine) :
    (s.updPermitLine f).draws = s.draws := rfl
@[simp] theorem State.updPermitLine_power (s : State) (f : PermitLine → PermitLine) :
    (s.updPermitLine f).power = s.power := rfl
@[simp] theorem State.updPermitLine_tracker (s : State) (f : PermitLine → PermitLine) :
    (s.updPermitLine f).tracker = s.tracker := rfl
@[simp] theorem State.updPermitLine_machine (s : State) (f : PermitLine → PermitLine) :
    (s.updPermitLine f).machine = s.machine := rfl
@[simp] theorem State.updPermitLine_profiles (s : State) (f : PermitLine → PermitLine) :
    (s.updPermitLine f).profiles = s.profiles := rfl
@[simp] theorem State.updPermitLine_assign (s : State) (f : PermitLine → PermitLine) :
    (s.updPermitLine f).assign = s.assign := rfl
@[simp] theorem State.updPermitLine_store (s : State) (f : PermitLine → PermitLine) :
    (s.updPermitLine f).store = s.store := rfl
@[simp] theorem State.updPermitLine_player (s : State) (f : PermitLine → PermitLine) :
    (s.updPermitLine f).player = s.player := rfl
@[simp] theorem State.updPermitLine_lists (s : State) (f : PermitLine → PermitLine) :
    (s.updPermitLine f).lists = s.lists := rfl
@[simp] theorem State.updPermitLine_planner (s : State) (f : PermitLine → PermitLine) :
    (s.updPermitLine f).planner = s.planner := rfl
@[simp] theorem State.updPermitLine_channels (s : State) (f : PermitLine → PermitLine) :
    (s.updPermitLine f).channels = s.channels := rfl
@[simp] theorem State.updPermitLine_referencing (s : State) (f : PermitLine → PermitLine) :
    (s.updPermitLine f).referencing = s.referencing := rfl
@[simp] theorem State.updPermitLine_run (s : State) (f : PermitLine → PermitLine) :
    (s.updPermitLine f).run = s.run := rfl
@[simp] theorem State.updPermitLine_permitLine (s : State) (f : PermitLine → PermitLine) :
    (s.updPermitLine f).permitLine = f s.permitLine := rfl
@[simp] theorem State.updPermitLine_link (s : State) (f : PermitLine → PermitLine) :
    (s.updPermitLine f).link = s.link := rfl

/-! ### updLink -/

@[simp] theorem State.updLink_pending (s : State) (f : Link → Link) : (s.updLink f).pending = s.pending := rfl
@[simp] theorem State.updLink_now (s : State) (f : Link → Link) : (s.updLink f).now = s.now := rfl
@[simp] theorem State.updLink_draws (s : State) (f : Link → Link) : (s.updLink f).draws = s.draws := rfl
@[simp] theorem State.updLink_power (s : State) (f : Link → Link) : (s.updLink f).power = s.power := rfl
@[simp] theorem State.updLink_tracker (s : State) (f : Link → Link) : (s.updLink f).tracker = s.tracker := rfl
@[simp] theorem State.updLink_machine (s : State) (f : Link → Link) : (s.updLink f).machine = s.machine := rfl
@[simp] theorem State.updLink_profiles (s : State) (f : Link → Link) : (s.updLink f).profiles = s.profiles := rfl
@[simp] theorem State.updLink_assign (s : State) (f : Link → Link) : (s.updLink f).assign = s.assign := rfl
@[simp] theorem State.updLink_store (s : State) (f : Link → Link) : (s.updLink f).store = s.store := rfl
@[simp] theorem State.updLink_player (s : State) (f : Link → Link) : (s.updLink f).player = s.player := rfl
@[simp] theorem State.updLink_lists (s : State) (f : Link → Link) : (s.updLink f).lists = s.lists := rfl
@[simp] theorem State.updLink_planner (s : State) (f : Link → Link) : (s.updLink f).planner = s.planner := rfl
@[simp] theorem State.updLink_channels (s : State) (f : Link → Link) : (s.updLink f).channels = s.channels := rfl
@[simp] theorem State.updLink_referencing (s : State) (f : Link → Link) :
    (s.updLink f).referencing = s.referencing := rfl
@[simp] theorem State.updLink_run (s : State) (f : Link → Link) : (s.updLink f).run = s.run := rfl
@[simp] theorem State.updLink_permitLine (s : State) (f : Link → Link) :
    (s.updLink f).permitLine = s.permitLine := rfl
@[simp] theorem State.updLink_link (s : State) (f : Link → Link) : (s.updLink f).link = f s.link := rfl

/-! ### updChannel -/

@[simp] theorem State.updChannel_pending (s : State) (b : Nat) (f : Channel → Channel) :
    (s.updChannel b f).pending = s.pending := rfl
@[simp] theorem State.updChannel_now (s : State) (b : Nat) (f : Channel → Channel) :
    (s.updChannel b f).now = s.now := rfl
@[simp] theorem State.updChannel_draws (s : State) (b : Nat) (f : Channel → Channel) :
    (s.updChannel b f).draws = s.draws := rfl
@[simp] theorem State.updChannel_power (s : State) (b : Nat) (f : Channel → Channel) :
    (s.updChannel b f).power = s.power := rfl
@[simp] theorem State.updChannel_tracker (s : State) (b : Nat) (f : Channel → Channel) :
    (s.updChannel b f).tracker = s.tracker := rfl
@[simp] theorem State.updChannel_machine (s : State) (b : Nat) (f : Channel → Channel) :
    (s.updChannel b f).machine = s.machine := rfl
@[simp] theorem State.updChannel_profiles (s : State) (b : Nat) (f : Channel → Channel) :
    (s.updChannel b f).profiles = s.profiles := rfl
@[simp] theorem State.updChannel_assign (s : State) (b : Nat) (f : Channel → Channel) :
    (s.updChannel b f).assign = s.assign := rfl
@[simp] theorem State.updChannel_store (s : State) (b : Nat) (f : Channel → Channel) :
    (s.updChannel b f).store = s.store := rfl
@[simp] theorem State.updChannel_player (s : State) (b : Nat) (f : Channel → Channel) :
    (s.updChannel b f).player = s.player := rfl
@[simp] theorem State.updChannel_lists (s : State) (b : Nat) (f : Channel → Channel) :
    (s.updChannel b f).lists = s.lists := rfl
@[simp] theorem State.updChannel_planner (s : State) (b : Nat) (f : Channel → Channel) :
    (s.updChannel b f).planner = s.planner := rfl
@[simp] theorem State.updChannel_channels (s : State) (b : Nat) (f : Channel → Channel) :
    (s.updChannel b f).channels = s.channels.modify (b - 1) f := rfl
@[simp] theorem State.updChannel_referencing (s : State) (b : Nat) (f : Channel → Channel) :
    (s.updChannel b f).referencing = s.referencing := rfl
@[simp] theorem State.updChannel_run (s : State) (b : Nat) (f : Channel → Channel) :
    (s.updChannel b f).run = s.run := rfl
@[simp] theorem State.updChannel_permitLine (s : State) (b : Nat) (f : Channel → Channel) :
    (s.updChannel b f).permitLine = s.permitLine := rfl
@[simp] theorem State.updChannel_link (s : State) (b : Nat) (f : Channel → Channel) :
    (s.updChannel b f).link = s.link := rfl

/-! ### mapChannels -/

@[simp] theorem State.mapChannels_pending (s : State) (f : Nat → Channel → Channel) :
    (s.mapChannels f).pending = s.pending := rfl
@[simp] theorem State.mapChannels_now (s : State) (f : Nat → Channel → Channel) : (s.mapChannels f).now = s.now := rfl
@[simp] theorem State.mapChannels_draws (s : State) (f : Nat → Channel → Channel) :
    (s.mapChannels f).draws = s.draws := rfl
@[simp] theorem State.mapChannels_power (s : State) (f : Nat → Channel → Channel) :
    (s.mapChannels f).power = s.power := rfl
@[simp] theorem State.mapChannels_tracker (s : State) (f : Nat → Channel → Channel) :
    (s.mapChannels f).tracker = s.tracker := rfl
@[simp] theorem State.mapChannels_machine (s : State) (f : Nat → Channel → Channel) :
    (s.mapChannels f).machine = s.machine := rfl
@[simp] theorem State.mapChannels_profiles (s : State) (f : Nat → Channel → Channel) :
    (s.mapChannels f).profiles = s.profiles := rfl
@[simp] theorem State.mapChannels_assign (s : State) (f : Nat → Channel → Channel) :
    (s.mapChannels f).assign = s.assign := rfl
@[simp] theorem State.mapChannels_store (s : State) (f : Nat → Channel → Channel) :
    (s.mapChannels f).store = s.store := rfl
@[simp] theorem State.mapChannels_player (s : State) (f : Nat → Channel → Channel) :
    (s.mapChannels f).player = s.player := rfl
@[simp] theorem State.mapChannels_lists (s : State) (f : Nat → Channel → Channel) :
    (s.mapChannels f).lists = s.lists := rfl
@[simp] theorem State.mapChannels_planner (s : State) (f : Nat → Channel → Channel) :
    (s.mapChannels f).planner = s.planner := rfl
@[simp] theorem State.mapChannels_channels (s : State) (f : Nat → Channel → Channel) :
    (s.mapChannels f).channels = mapFrom f 1 s.channels := rfl
@[simp] theorem State.mapChannels_referencing (s : State) (f : Nat → Channel → Channel) :
    (s.mapChannels f).referencing = s.referencing := rfl
@[simp] theorem State.mapChannels_run (s : State) (f : Nat → Channel → Channel) : (s.mapChannels f).run = s.run := rfl
@[simp] theorem State.mapChannels_permitLine (s : State) (f : Nat → Channel → Channel) :
    (s.mapChannels f).permitLine = s.permitLine := rfl
@[simp] theorem State.mapChannels_link (s : State) (f : Nat → Channel → Channel) :
    (s.mapChannels f).link = s.link := rfl

/-! ### elapse -/

@[simp] theorem State.elapse_pending (s : State) (dt : Nat) : (s.elapse dt).pending = s.pending := rfl
@[simp] theorem State.elapse_now (s : State) (dt : Nat) : (s.elapse dt).now = s.now + dt := rfl
@[simp] theorem State.elapse_draws (s : State) (dt : Nat) : (s.elapse dt).draws = s.draws := rfl
@[simp] theorem State.elapse_power (s : State) (dt : Nat) : (s.elapse dt).power = s.power := rfl
@[simp] theorem State.elapse_tracker (s : State) (dt : Nat) : (s.elapse dt).tracker = s.tracker := rfl
@[simp] theorem State.elapse_machine (s : State) (dt : Nat) : (s.elapse dt).machine = s.machine := rfl
@[simp] theorem State.elapse_profiles (s : State) (dt : Nat) : (s.elapse dt).profiles = s.profiles := rfl
@[simp] theorem State.elapse_assign (s : State) (dt : Nat) : (s.elapse dt).assign = s.assign := rfl
@[simp] theorem State.elapse_store (s : State) (dt : Nat) : (s.elapse dt).store = s.store := rfl
@[simp] theorem State.elapse_player (s : State) (dt : Nat) : (s.elapse dt).player = s.player := rfl
@[simp] theorem State.elapse_lists (s : State) (dt : Nat) : (s.elapse dt).lists = s.lists := rfl
@[simp] theorem State.elapse_planner (s : State) (dt : Nat) : (s.elapse dt).planner = s.planner := rfl
@[simp] theorem State.elapse_channels (s : State) (dt : Nat) : (s.elapse dt).channels = s.channels := rfl
@[simp] theorem State.elapse_referencing (s : State) (dt : Nat) : (s.elapse dt).referencing = s.referencing := rfl
@[simp] theorem State.elapse_run (s : State) (dt : Nat) : (s.elapse dt).run = s.run := rfl
@[simp] theorem State.elapse_permitLine (s : State) (dt : Nat) : (s.elapse dt).permitLine = s.permitLine := rfl
@[simp] theorem State.elapse_link (s : State) (dt : Nat) : (s.elapse dt).link = s.link := rfl

/-! ### advanceTo -/

@[simp] theorem State.advanceTo_pending (s : State) (t : Nat) : (s.advanceTo t).pending = s.pending := rfl
@[simp] theorem State.advanceTo_now (s : State) (t : Nat) : (s.advanceTo t).now = max s.now t := rfl
@[simp] theorem State.advanceTo_draws (s : State) (t : Nat) : (s.advanceTo t).draws = s.draws := rfl
@[simp] theorem State.advanceTo_power (s : State) (t : Nat) : (s.advanceTo t).power = s.power := rfl
@[simp] theorem State.advanceTo_tracker (s : State) (t : Nat) : (s.advanceTo t).tracker = s.tracker := rfl
@[simp] theorem State.advanceTo_machine (s : State) (t : Nat) : (s.advanceTo t).machine = s.machine := rfl
@[simp] theorem State.advanceTo_profiles (s : State) (t : Nat) : (s.advanceTo t).profiles = s.profiles := rfl
@[simp] theorem State.advanceTo_assign (s : State) (t : Nat) : (s.advanceTo t).assign = s.assign := rfl
@[simp] theorem State.advanceTo_store (s : State) (t : Nat) : (s.advanceTo t).store = s.store := rfl
@[simp] theorem State.advanceTo_player (s : State) (t : Nat) : (s.advanceTo t).player = s.player := rfl
@[simp] theorem State.advanceTo_lists (s : State) (t : Nat) : (s.advanceTo t).lists = s.lists := rfl
@[simp] theorem State.advanceTo_planner (s : State) (t : Nat) : (s.advanceTo t).planner = s.planner := rfl
@[simp] theorem State.advanceTo_channels (s : State) (t : Nat) : (s.advanceTo t).channels = s.channels := rfl
@[simp] theorem State.advanceTo_referencing (s : State) (t : Nat) : (s.advanceTo t).referencing = s.referencing := rfl
@[simp] theorem State.advanceTo_run (s : State) (t : Nat) : (s.advanceTo t).run = s.run := rfl
@[simp] theorem State.advanceTo_permitLine (s : State) (t : Nat) : (s.advanceTo t).permitLine = s.permitLine := rfl
@[simp] theorem State.advanceTo_link (s : State) (t : Nat) : (s.advanceTo t).link = s.link := rfl

/-! ### draw -/

@[simp] theorem State.draw_pending (s : State) : s.draw.pending = s.pending := rfl
@[simp] theorem State.draw_now (s : State) : s.draw.now = s.now := rfl
@[simp] theorem State.draw_draws (s : State) : s.draw.draws = s.draws + 1 := rfl
@[simp] theorem State.draw_power (s : State) : s.draw.power = s.power := rfl
@[simp] theorem State.draw_tracker (s : State) : s.draw.tracker = s.tracker := rfl
@[simp] theorem State.draw_machine (s : State) : s.draw.machine = s.machine := rfl
@[simp] theorem State.draw_profiles (s : State) : s.draw.profiles = s.profiles := rfl
@[simp] theorem State.draw_assign (s : State) : s.draw.assign = s.assign := rfl
@[simp] theorem State.draw_store (s : State) : s.draw.store = s.store := rfl
@[simp] theorem State.draw_player (s : State) : s.draw.player = s.player := rfl
@[simp] theorem State.draw_lists (s : State) : s.draw.lists = s.lists := rfl
@[simp] theorem State.draw_planner (s : State) : s.draw.planner = s.planner := rfl
@[simp] theorem State.draw_channels (s : State) : s.draw.channels = s.channels := rfl
@[simp] theorem State.draw_referencing (s : State) : s.draw.referencing = s.referencing := rfl
@[simp] theorem State.draw_run (s : State) : s.draw.run = s.run := rfl
@[simp] theorem State.draw_permitLine (s : State) : s.draw.permitLine = s.permitLine := rfl
@[simp] theorem State.draw_link (s : State) : s.draw.link = s.link := rfl

/-! ### permitDue -/

@[simp] theorem State.permitDue_pending (s : State) : s.permitDue.pending = s.pending := rfl
@[simp] theorem State.permitDue_now (s : State) : s.permitDue.now = s.now := rfl
@[simp] theorem State.permitDue_draws (s : State) : s.permitDue.draws = s.draws := rfl
@[simp] theorem State.permitDue_power (s : State) : s.permitDue.power = s.power := rfl
@[simp] theorem State.permitDue_tracker (s : State) : s.permitDue.tracker = s.tracker := rfl
@[simp] theorem State.permitDue_machine (s : State) : s.permitDue.machine = s.machine := rfl
@[simp] theorem State.permitDue_profiles (s : State) : s.permitDue.profiles = s.profiles := rfl
@[simp] theorem State.permitDue_assign (s : State) : s.permitDue.assign = s.assign := rfl
@[simp] theorem State.permitDue_store (s : State) : s.permitDue.store = s.store := rfl
@[simp] theorem State.permitDue_player (s : State) : s.permitDue.player = s.player := rfl
@[simp] theorem State.permitDue_lists (s : State) : s.permitDue.lists = s.lists := rfl
@[simp] theorem State.permitDue_planner (s : State) : s.permitDue.planner = s.planner := rfl
@[simp] theorem State.permitDue_channels (s : State) : s.permitDue.channels = s.channels := rfl
@[simp] theorem State.permitDue_referencing (s : State) : s.permitDue.referencing = s.referencing := rfl
@[simp] theorem State.permitDue_run (s : State) : s.permitDue.run = s.run := rfl
@[simp] theorem State.permitDue_permitLine (s : State) :
    s.permitDue.permitLine = { s.permitLine with due := true } := rfl
@[simp] theorem State.permitDue_link (s : State) : s.permitDue.link = s.link := rfl

/-! ### updBlock -/

@[simp] theorem State.updBlock_pending (s : State) (id : Nat) (f : Block → Block) :
    (s.updBlock id f).pending = s.pending := rfl
@[simp] theorem State.updBlock_now (s : State) (id : Nat) (f : Block → Block) : (s.updBlock id f).now = s.now := rfl
@[simp] theorem State.updBlock_draws (s : State) (id : Nat) (f : Block → Block) :
    (s.updBlock id f).draws = s.draws := rfl
@[simp] theorem State.updBlock_power (s : State) (id : Nat) (f : Block → Block) :
    (s.updBlock id f).power = s.power := rfl
@[simp] theorem State.updBlock_tracker (s : State) (id : Nat) (f : Block → Block) :
    (s.updBlock id f).tracker = s.tracker := rfl
@[simp] theorem State.updBlock_machine (s : State) (id : Nat) (f : Block → Block) :
    (s.updBlock id f).machine = s.machine := rfl
@[simp] theorem State.updBlock_profiles (s : State) (id : Nat) (f : Block → Block) :
    (s.updBlock id f).profiles = s.profiles := rfl
@[simp] theorem State.updBlock_assign (s : State) (id : Nat) (f : Block → Block) :
    (s.updBlock id f).assign = s.assign := rfl
@[simp] theorem State.updBlock_store (s : State) (id : Nat) (f : Block → Block) :
    (s.updBlock id f).store = { s.store with blocks := s.store.blocks.modify id f } := rfl
@[simp] theorem State.updBlock_player (s : State) (id : Nat) (f : Block → Block) :
    (s.updBlock id f).player = s.player := rfl
@[simp] theorem State.updBlock_lists (s : State) (id : Nat) (f : Block → Block) :
    (s.updBlock id f).lists = s.lists := rfl
@[simp] theorem State.updBlock_planner (s : State) (id : Nat) (f : Block → Block) :
    (s.updBlock id f).planner = s.planner := rfl
@[simp] theorem State.updBlock_channels (s : State) (id : Nat) (f : Block → Block) :
    (s.updBlock id f).channels = s.channels := rfl
@[simp] theorem State.updBlock_referencing (s : State) (id : Nat) (f : Block → Block) :
    (s.updBlock id f).referencing = s.referencing := rfl
@[simp] theorem State.updBlock_run (s : State) (id : Nat) (f : Block → Block) : (s.updBlock id f).run = s.run := rfl
@[simp] theorem State.updBlock_permitLine (s : State) (id : Nat) (f : Block → Block) :
    (s.updBlock id f).permitLine = s.permitLine := rfl
@[simp] theorem State.updBlock_link (s : State) (id : Nat) (f : Block → Block) :
    (s.updBlock id f).link = s.link := rfl

/-! ### notifyTagged -/

@[simp] theorem State.notifyTagged_pending (s : State) (r : Report) (d n : Nat) (t : Tag) :
    (s.notifyTagged r d n t).pending = s.pending := rfl
@[simp] theorem State.notifyTagged_now (s : State) (r : Report) (d n : Nat) (t : Tag) :
    (s.notifyTagged r d n t).now = s.now := rfl
@[simp] theorem State.notifyTagged_draws (s : State) (r : Report) (d n : Nat) (t : Tag) :
    (s.notifyTagged r d n t).draws = s.draws := rfl
@[simp] theorem State.notifyTagged_power (s : State) (r : Report) (d n : Nat) (t : Tag) :
    (s.notifyTagged r d n t).power = s.power := rfl
@[simp] theorem State.notifyTagged_tracker (s : State) (r : Report) (d n : Nat) (t : Tag) :
    (s.notifyTagged r d n t).tracker = s.tracker := rfl
@[simp] theorem State.notifyTagged_machine (s : State) (r : Report) (d n : Nat) (t : Tag) :
    (s.notifyTagged r d n t).machine = s.machine := rfl
@[simp] theorem State.notifyTagged_profiles (s : State) (r : Report) (d n : Nat) (t : Tag) :
    (s.notifyTagged r d n t).profiles = s.profiles := rfl
@[simp] theorem State.notifyTagged_assign (s : State) (r : Report) (d n : Nat) (t : Tag) :
    (s.notifyTagged r d n t).assign = s.assign := rfl
@[simp] theorem State.notifyTagged_store (s : State) (r : Report) (d n : Nat) (t : Tag) :
    (s.notifyTagged r d n t).store = s.store := rfl
@[simp] theorem State.notifyTagged_player (s : State) (r : Report) (d n : Nat) (t : Tag) :
    (s.notifyTagged r d n t).player = s.player := rfl
@[simp] theorem State.notifyTagged_lists (s : State) (r : Report) (d n : Nat) (t : Tag) :
    (s.notifyTagged r d n t).lists = s.lists := rfl
@[simp] theorem State.notifyTagged_planner (s : State) (r : Report) (d n : Nat) (t : Tag) :
    (s.notifyTagged r d n t).planner = s.planner := rfl
@[simp] theorem State.notifyTagged_channels (s : State) (r : Report) (d n : Nat) (t : Tag) :
    (s.notifyTagged r d n t).channels = s.channels := rfl
@[simp] theorem State.notifyTagged_referencing (s : State) (r : Report) (d n : Nat) (t : Tag) :
    (s.notifyTagged r d n t).referencing = s.referencing := rfl
@[simp] theorem State.notifyTagged_run (s : State) (r : Report) (d n : Nat) (t : Tag) :
    (s.notifyTagged r d n t).run = s.run := rfl
@[simp] theorem State.notifyTagged_permitLine (s : State) (r : Report) (d n : Nat) (t : Tag) :
    (s.notifyTagged r d n t).permitLine = s.permitLine := rfl
@[simp] theorem State.notifyTagged_link (s : State) (r : Report) (d n : Nat) (t : Tag) :
    (s.notifyTagged r d n t).link = s.link.offer ⟨r, d, n, t, s.tracker.angle⟩ := rfl

/-! ### notify -/

@[simp] theorem State.notify_pending (s : State) (r : Report) (d n : Nat) :
    (s.notify r d n).pending = s.pending := rfl
@[simp] theorem State.notify_now (s : State) (r : Report) (d n : Nat) : (s.notify r d n).now = s.now := rfl
@[simp] theorem State.notify_draws (s : State) (r : Report) (d n : Nat) : (s.notify r d n).draws = s.draws := rfl
@[simp] theorem State.notify_power (s : State) (r : Report) (d n : Nat) : (s.notify r d n).power = s.power := rfl
@[simp] theorem State.notify_tracker (s : State) (r : Report) (d n : Nat) :
    (s.notify r d n).tracker = s.tracker := rfl
@[simp] theorem State.notify_machine (s : State) (r : Report) (d n : Nat) :
    (s.notify r d n).machine = s.machine := rfl
@[simp] theorem State.notify_profiles (s : State) (r : Report) (d n : Nat) :
    (s.notify r d n).profiles = s.profiles := rfl
@[simp] theorem State.notify_assign (s : State) (r : Report) (d n : Nat) : (s.notify r d n).assign = s.assign := rfl
@[simp] theorem State.notify_store (s : State) (r : Report) (d n : Nat) : (s.notify r d n).store = s.store := rfl
@[simp] theorem State.notify_player (s : State) (r : Report) (d n : Nat) : (s.notify r d n).player = s.player := rfl
@[simp] theorem State.notify_lists (s : State) (r : Report) (d n : Nat) : (s.notify r d n).lists = s.lists := rfl
@[simp] theorem State.notify_planner (s : State) (r : Report) (d n : Nat) :
    (s.notify r d n).planner = s.planner := rfl
@[simp] theorem State.notify_channels (s : State) (r : Report) (d n : Nat) :
    (s.notify r d n).channels = s.channels := rfl
@[simp] theorem State.notify_referencing (s : State) (r : Report) (d n : Nat) :
    (s.notify r d n).referencing = s.referencing := rfl
@[simp] theorem State.notify_run (s : State) (r : Report) (d n : Nat) : (s.notify r d n).run = s.run := rfl
@[simp] theorem State.notify_permitLine (s : State) (r : Report) (d n : Nat) :
    (s.notify r d n).permitLine = s.permitLine := rfl
@[simp] theorem State.notify_link (s : State) (r : Report) (d n : Nat) :
    (s.notify r d n).link = s.link.offer ⟨r, d, n, s.currentTag, s.tracker.angle⟩ := rfl

/-! ### hunt -/

@[simp] theorem State.hunt_pending (s : State) : s.hunt.pending = s.pending := rfl
@[simp] theorem State.hunt_now (s : State) : s.hunt.now = s.now := rfl
@[simp] theorem State.hunt_draws (s : State) : s.hunt.draws = s.draws := rfl
@[simp] theorem State.hunt_power (s : State) : s.hunt.power = s.power := rfl
@[simp] theorem State.hunt_tracker (s : State) : s.hunt.tracker = s.tracker := rfl
@[simp] theorem State.hunt_machine (s : State) : s.hunt.machine = s.machine := rfl
@[simp] theorem State.hunt_profiles (s : State) : s.hunt.profiles = s.profiles := rfl
@[simp] theorem State.hunt_assign (s : State) : s.hunt.assign = s.assign := rfl
@[simp] theorem State.hunt_store (s : State) : s.hunt.store = s.store := rfl
@[simp] theorem State.hunt_player (s : State) : s.hunt.player = s.player := rfl
@[simp] theorem State.hunt_lists (s : State) : s.hunt.lists = s.lists := rfl
@[simp] theorem State.hunt_planner (s : State) : s.hunt.planner = s.planner := rfl
@[simp] theorem State.hunt_channels (s : State) : s.hunt.channels = s.channels := rfl
@[simp] theorem State.hunt_referencing (s : State) : s.hunt.referencing = s.referencing := rfl
@[simp] theorem State.hunt_run (s : State) : s.hunt.run = s.run := rfl
@[simp] theorem State.hunt_permitLine (s : State) : s.hunt.permitLine = s.permitLine := rfl
@[simp] theorem State.hunt_link (s : State) : s.hunt.link = { s.link with rx := s.link.rx.hunting } := rfl

/-! ### sendReply -/

@[simp] theorem State.sendReply_pending (s : State) (r : ReplyFrame) : (s.sendReply r).pending = s.pending := rfl
@[simp] theorem State.sendReply_now (s : State) (r : ReplyFrame) : (s.sendReply r).now = s.now := rfl
@[simp] theorem State.sendReply_draws (s : State) (r : ReplyFrame) : (s.sendReply r).draws = s.draws := rfl
@[simp] theorem State.sendReply_power (s : State) (r : ReplyFrame) : (s.sendReply r).power = s.power := rfl
@[simp] theorem State.sendReply_tracker (s : State) (r : ReplyFrame) : (s.sendReply r).tracker = s.tracker := rfl
@[simp] theorem State.sendReply_machine (s : State) (r : ReplyFrame) : (s.sendReply r).machine = s.machine := rfl
@[simp] theorem State.sendReply_profiles (s : State) (r : ReplyFrame) : (s.sendReply r).profiles = s.profiles := rfl
@[simp] theorem State.sendReply_assign (s : State) (r : ReplyFrame) : (s.sendReply r).assign = s.assign := rfl
@[simp] theorem State.sendReply_store (s : State) (r : ReplyFrame) : (s.sendReply r).store = s.store := rfl
@[simp] theorem State.sendReply_player (s : State) (r : ReplyFrame) : (s.sendReply r).player = s.player := rfl
@[simp] theorem State.sendReply_lists (s : State) (r : ReplyFrame) : (s.sendReply r).lists = s.lists := rfl
@[simp] theorem State.sendReply_planner (s : State) (r : ReplyFrame) : (s.sendReply r).planner = s.planner := rfl
@[simp] theorem State.sendReply_channels (s : State) (r : ReplyFrame) : (s.sendReply r).channels = s.channels := rfl
@[simp] theorem State.sendReply_referencing (s : State) (r : ReplyFrame) :
    (s.sendReply r).referencing = s.referencing := rfl
@[simp] theorem State.sendReply_run (s : State) (r : ReplyFrame) : (s.sendReply r).run = s.run := rfl
@[simp] theorem State.sendReply_permitLine (s : State) (r : ReplyFrame) :
    (s.sendReply r).permitLine = s.permitLine := rfl
@[simp] theorem State.sendReply_link (s : State) (r : ReplyFrame) :
    (s.sendReply r).link = { s.link with tx := some r, txUntil := s.now + lineTime s.link.rate (linkFrame r.tag r.kind r.payload).length } := rfl

end Sys2Proof.Machine
end

