-- ==== Sys2Proof/Laws/Frames.lean ====
section
/-! SUPPORT. What each shared operation leaves alone: one lemma for each operation, naming every field it does not change. -/

namespace Sys2Proof.Machine

@[simp] theorem State.publish_keeps (s : State) :
    s.publish.pending = s.pending ∧ s.publish.now = s.now ∧ s.publish.draws = s.draws ∧
    s.publish.power = s.power ∧ s.publish.tracker = s.tracker ∧ s.publish.machine = s.machine ∧
    s.publish.profiles = s.profiles ∧ s.publish.assign = s.assign ∧ s.publish.store = s.store ∧
    s.publish.player = s.player ∧ s.publish.lists = s.lists ∧ s.publish.planner = s.planner ∧
    s.publish.channels = s.channels ∧ s.publish.referencing = s.referencing ∧ s.publish.link = s.link := by
  and_intros <;> (unfold State.publish; split <;> rfl)

@[simp] theorem State.replan_keeps (s : State) :
    s.replan.pending = s.pending ∧ s.replan.now = s.now ∧ s.replan.draws = s.draws ∧ s.replan.power = s.power ∧
    s.replan.tracker = s.tracker ∧ s.replan.machine = s.machine ∧ s.replan.profiles = s.profiles ∧
    s.replan.assign = s.assign ∧ s.replan.store = s.store ∧ s.replan.player = s.player ∧
    s.replan.lists = s.lists ∧ s.replan.channels = s.channels ∧ s.replan.referencing = s.referencing ∧
    s.replan.link = s.link := by
  and_intros <;> (simp [State.replan])

@[simp] theorem State.reportInfeasible_keeps (s : State) (r n : CourseRecord) (c : Ceiling) :
    (s.reportInfeasible r n c).pending = s.pending ∧ (s.reportInfeasible r n c).now = s.now ∧
    (s.reportInfeasible r n c).draws = s.draws ∧ (s.reportInfeasible r n c).power = s.power ∧
    (s.reportInfeasible r n c).tracker = s.tracker ∧ (s.reportInfeasible r n c).machine = s.machine ∧
    (s.reportInfeasible r n c).profiles = s.profiles ∧ (s.reportInfeasible r n c).assign = s.assign ∧
    (s.reportInfeasible r n c).store = s.store ∧ (s.reportInfeasible r n c).player = s.player ∧
    (s.reportInfeasible r n c).lists = s.lists ∧ (s.reportInfeasible r n c).planner = s.planner ∧
    (s.reportInfeasible r n c).channels = s.channels ∧ (s.reportInfeasible r n c).referencing = s.referencing ∧
    (s.reportInfeasible r n c).run = s.run ∧ (s.reportInfeasible r n c).permitLine = s.permitLine := by
  and_intros <;> (unfold State.reportInfeasible; (repeat' split) <;> rfl)

@[simp] theorem State.giveCeiling_keeps (s : State) (r n : CourseRecord) :
    (s.giveCeiling r n).pending = s.pending ∧ (s.giveCeiling r n).now = s.now ∧
    (s.giveCeiling r n).draws = s.draws ∧ (s.giveCeiling r n).power = s.power ∧
    (s.giveCeiling r n).tracker = s.tracker ∧ (s.giveCeiling r n).machine = s.machine ∧
    (s.giveCeiling r n).profiles = s.profiles ∧ (s.giveCeiling r n).assign = s.assign ∧
    (s.giveCeiling r n).store = s.store ∧ (s.giveCeiling r n).player = s.player ∧
    (s.giveCeiling r n).planner = s.planner ∧ (s.giveCeiling r n).channels = s.channels ∧
    (s.giveCeiling r n).referencing = s.referencing ∧ (s.giveCeiling r n).run = s.run ∧
    (s.giveCeiling r n).permitLine = s.permitLine := by
  and_intros <;> (simp [State.giveCeiling])

@[simp] theorem State.append_keeps (s : State) (g : Tag) (o : Origin) (c : Option Nat) (l : List RawLap) :
    (s.append g o c l).pending = s.pending ∧ (s.append g o c l).now = s.now ∧ (s.append g o c l).draws = s.draws ∧
    (s.append g o c l).power = s.power ∧ (s.append g o c l).tracker = s.tracker ∧
    (s.append g o c l).machine = s.machine ∧ (s.append g o c l).profiles = s.profiles ∧
    (s.append g o c l).assign = s.assign ∧ (s.append g o c l).store = s.store ∧
    (s.append g o c l).player = s.player ∧ (s.append g o c l).channels = s.channels ∧
    (s.append g o c l).referencing = s.referencing := by
  and_intros <;> (unfold State.append; split <;> simp)

@[simp] theorem State.endFollowing_keeps (s : State) :
    s.endFollowing.pending = s.pending ∧ s.endFollowing.now = s.now ∧ s.endFollowing.draws = s.draws ∧
    s.endFollowing.power = s.power ∧ s.endFollowing.tracker = s.tracker ∧ s.endFollowing.machine = s.machine ∧
    s.endFollowing.profiles = s.profiles ∧ s.endFollowing.assign = s.assign ∧ s.endFollowing.store = s.store ∧
    s.endFollowing.player = s.player ∧ s.endFollowing.lists = s.lists ∧ s.endFollowing.planner = s.planner ∧
    s.endFollowing.referencing = s.referencing ∧ s.endFollowing.run = s.run ∧
    s.endFollowing.permitLine = s.permitLine ∧ s.endFollowing.link = s.link := by
  and_intros <;> rfl

@[simp] theorem State.follow_keeps (s : State) :
    s.follow.pending = s.pending ∧ s.follow.now = s.now ∧ s.follow.draws = s.draws ∧ s.follow.power = s.power ∧
    s.follow.tracker = s.tracker ∧ s.follow.machine = s.machine ∧ s.follow.profiles = s.profiles ∧
    s.follow.assign = s.assign ∧ s.follow.store = s.store ∧ s.follow.player = s.player ∧
    s.follow.lists = s.lists ∧ s.follow.planner = s.planner ∧ s.follow.referencing = s.referencing ∧
    s.follow.run = s.run ∧ s.follow.permitLine = s.permitLine ∧ s.follow.link = s.link := by
  and_intros <;> rfl

@[simp] theorem State.coast_keeps (s : State) :
    s.coast.pending = s.pending ∧ s.coast.now = s.now ∧ s.coast.draws = s.draws ∧ s.coast.power = s.power ∧
    s.coast.tracker = s.tracker ∧ s.coast.machine = s.machine ∧ s.coast.profiles = s.profiles ∧
    s.coast.assign = s.assign ∧ s.coast.store = s.store ∧ s.coast.player = s.player ∧ s.coast.lists = s.lists ∧
    s.coast.planner = s.planner ∧ s.coast.referencing = s.referencing ∧ s.coast.run = s.run ∧
    s.coast.permitLine = s.permitLine ∧ s.coast.link = s.link := by
  and_intros <;> (unfold State.coast; split <;> rfl)

@[simp] theorem State.notifyJogDone_keeps (s : State) (b : Nat) (o : JogOutcome) :
    (s.notifyJogDone b o).pending = s.pending ∧ (s.notifyJogDone b o).now = s.now ∧
    (s.notifyJogDone b o).power = s.power ∧ (s.notifyJogDone b o).tracker = s.tracker ∧
    (s.notifyJogDone b o).machine = s.machine ∧ (s.notifyJogDone b o).profiles = s.profiles ∧
    (s.notifyJogDone b o).assign = s.assign ∧ (s.notifyJogDone b o).store = s.store ∧
    (s.notifyJogDone b o).player = s.player ∧ (s.notifyJogDone b o).lists = s.lists ∧
    (s.notifyJogDone b o).planner = s.planner ∧ (s.notifyJogDone b o).channels = s.channels ∧
    (s.notifyJogDone b o).referencing = s.referencing ∧ (s.notifyJogDone b o).run = s.run ∧
    (s.notifyJogDone b o).permitLine = s.permitLine := by
  and_intros <;> (unfold State.notifyJogDone; (repeat' split) <;> rfl)

@[simp] theorem State.endJog_keeps (s : State) (b : Nat) (o : JogOutcome) (f : Channel → Channel) :
    (s.endJog b o f).pending = s.pending ∧ (s.endJog b o f).now = s.now ∧ (s.endJog b o f).power = s.power ∧
    (s.endJog b o f).tracker = s.tracker ∧ (s.endJog b o f).machine = s.machine ∧
    (s.endJog b o f).profiles = s.profiles ∧ (s.endJog b o f).assign = s.assign ∧
    (s.endJog b o f).store = s.store ∧ (s.endJog b o f).player = s.player ∧ (s.endJog b o f).lists = s.lists ∧
    (s.endJog b o f).planner = s.planner ∧ (s.endJog b o f).referencing = s.referencing ∧
    (s.endJog b o f).run = s.run ∧ (s.endJog b o f).permitLine = s.permitLine := by
  and_intros <;> (unfold State.endJog; split <;> simp)

@[simp] theorem State.endJogs_keeps (s : State) (o : JogOutcome) (f : Channel → Channel) :
    (s.endJogs o f).pending = s.pending ∧ (s.endJogs o f).now = s.now ∧ (s.endJogs o f).power = s.power ∧
    (s.endJogs o f).tracker = s.tracker ∧ (s.endJogs o f).machine = s.machine ∧
    (s.endJogs o f).profiles = s.profiles ∧ (s.endJogs o f).assign = s.assign ∧ (s.endJogs o f).store = s.store ∧
    (s.endJogs o f).player = s.player ∧ (s.endJogs o f).lists = s.lists ∧ (s.endJogs o f).planner = s.planner ∧
    (s.endJogs o f).referencing = s.referencing ∧ (s.endJogs o f).run = s.run ∧
    (s.endJogs o f).permitLine = s.permitLine := by
  unfold State.endJogs
  induction allBars generalizing s with
  | nil => simp
  | cons b bs ih => simp [ih]

@[simp] theorem State.endReferencing_keeps (s : State) (r : Referencing) :
    (s.endReferencing r).pending = s.pending ∧ (s.endReferencing r).now = s.now ∧
    (s.endReferencing r).draws = s.draws ∧ (s.endReferencing r).power = s.power ∧
    (s.endReferencing r).tracker = s.tracker ∧ (s.endReferencing r).machine = s.machine ∧
    (s.endReferencing r).profiles = s.profiles ∧ (s.endReferencing r).assign = s.assign ∧
    (s.endReferencing r).store = s.store ∧ (s.endReferencing r).player = s.player ∧
    (s.endReferencing r).lists = s.lists ∧ (s.endReferencing r).planner = s.planner ∧
    (s.endReferencing r).channels = s.channels ∧ (s.endReferencing r).run = s.run ∧
    (s.endReferencing r).permitLine = s.permitLine := by
  and_intros <;> rfl

@[simp] theorem State.finishBar_keeps (s : State) (b : Nat) (o : RefOutcome) :
    (s.finishBar b o).pending = s.pending ∧ (s.finishBar b o).now = s.now ∧ (s.finishBar b o).draws = s.draws ∧
    (s.finishBar b o).power = s.power ∧ (s.finishBar b o).tracker = s.tracker ∧
    (s.finishBar b o).machine = s.machine ∧ (s.finishBar b o).profiles = s.profiles ∧
    (s.finishBar b o).assign = s.assign ∧ (s.finishBar b o).store = s.store ∧
    (s.finishBar b o).player = s.player ∧ (s.finishBar b o).lists = s.lists ∧
    (s.finishBar b o).planner = s.planner ∧ (s.finishBar b o).channels = s.channels ∧
    (s.finishBar b o).run = s.run ∧ (s.finishBar b o).permitLine = s.permitLine := by
  and_intros <;> (unfold State.finishBar; split; rfl; split; (dsimp only; split <;> rfl); rfl)

@[simp] theorem State.finishRemaining_keeps (s : State) (o : RefOutcome) (f : Channel → Channel) :
    (s.finishRemaining o f).pending = s.pending ∧ (s.finishRemaining o f).now = s.now ∧
    (s.finishRemaining o f).draws = s.draws ∧ (s.finishRemaining o f).power = s.power ∧
    (s.finishRemaining o f).tracker = s.tracker ∧ (s.finishRemaining o f).machine = s.machine ∧
    (s.finishRemaining o f).profiles = s.profiles ∧ (s.finishRemaining o f).assign = s.assign ∧
    (s.finishRemaining o f).store = s.store ∧ (s.finishRemaining o f).player = s.player ∧
    (s.finishRemaining o f).lists = s.lists ∧ (s.finishRemaining o f).planner = s.planner ∧
    (s.finishRemaining o f).run = s.run ∧ (s.finishRemaining o f).permitLine = s.permitLine := by
  and_intros <;> (unfold State.finishRemaining; split <;> rfl)

@[simp] theorem State.endMotions_keeps (s : State) (jo : JogOutcome) (ro : RefOutcome) (f g : Channel → Channel) :
    (s.endMotions jo ro f g).pending = s.pending ∧ (s.endMotions jo ro f g).now = s.now ∧
    (s.endMotions jo ro f g).power = s.power ∧ (s.endMotions jo ro f g).tracker = s.tracker ∧
    (s.endMotions jo ro f g).machine = s.machine ∧ (s.endMotions jo ro f g).profiles = s.profiles ∧
    (s.endMotions jo ro f g).assign = s.assign ∧ (s.endMotions jo ro f g).store = s.store ∧
    (s.endMotions jo ro f g).player = s.player ∧ (s.endMotions jo ro f g).lists = s.lists ∧
    (s.endMotions jo ro f g).planner = s.planner ∧ (s.endMotions jo ro f g).run = s.run ∧
    (s.endMotions jo ro f g).permitLine = s.permitLine := by
  and_intros <;> (unfold State.endMotions; (repeat' split) <;> simp)

@[simp] theorem State.failRequest_keeps (s : State) (c : Cause) (d b : Nat) :
    (s.failRequest c d b).pending = s.pending ∧ (s.failRequest c d b).now = s.now ∧
    (s.failRequest c d b).draws = s.draws ∧ (s.failRequest c d b).power = s.power ∧
    (s.failRequest c d b).tracker = s.tracker ∧ (s.failRequest c d b).machine = s.machine ∧
    (s.failRequest c d b).profiles = s.profiles ∧ (s.failRequest c d b).assign = s.assign ∧
    (s.failRequest c d b).store = s.store ∧ (s.failRequest c d b).player = s.player ∧
    (s.failRequest c d b).lists = s.lists ∧ (s.failRequest c d b).planner = s.planner ∧
    (s.failRequest c d b).channels = s.channels ∧ (s.failRequest c d b).referencing = s.referencing ∧
    (s.failRequest c d b).permitLine = s.permitLine := by
  and_intros <;> rfl

@[simp] theorem State.failAlignment_keeps (s : State) (c : Cause) (d b : Nat) :
    (s.failAlignment c d b).pending = s.pending ∧ (s.failAlignment c d b).now = s.now ∧
    (s.failAlignment c d b).draws = s.draws ∧ (s.failAlignment c d b).power = s.power ∧
    (s.failAlignment c d b).tracker = s.tracker ∧ (s.failAlignment c d b).machine = s.machine ∧
    (s.failAlignment c d b).profiles = s.profiles ∧ (s.failAlignment c d b).assign = s.assign ∧
    (s.failAlignment c d b).store = s.store ∧ (s.failAlignment c d b).player = s.player ∧
    (s.failAlignment c d b).lists = s.lists ∧ (s.failAlignment c d b).planner = s.planner ∧
    (s.failAlignment c d b).referencing = s.referencing ∧ (s.failAlignment c d b).permitLine = s.permitLine := by
  and_intros <;> rfl

@[simp] theorem State.haltOn_keeps (s : State) (c : Cause) (d b : Nat) (v : Option Nat) (p : Nat) :
    (s.haltOn c d b v p).pending = s.pending ∧ (s.haltOn c d b v p).now = s.now ∧
    (s.haltOn c d b v p).draws = s.draws ∧ (s.haltOn c d b v p).power = s.power ∧
    (s.haltOn c d b v p).tracker = s.tracker ∧ (s.haltOn c d b v p).machine = s.machine ∧
    (s.haltOn c d b v p).profiles = s.profiles ∧ (s.haltOn c d b v p).assign = s.assign ∧
    (s.haltOn c d b v p).store = s.store ∧ (s.haltOn c d b v p).player = s.player ∧
    (s.haltOn c d b v p).lists = s.lists ∧ (s.haltOn c d b v p).referencing = s.referencing := by
  and_intros <;> (simp [State.haltOn])

@[simp] theorem State.reportWith_keeps (s : State) (c : Cause) (d b : Nat) (v : Option Nat) (p : Nat) :
    (s.reportWith c d b v p).pending = s.pending ∧ (s.reportWith c d b v p).now = s.now ∧
    (s.reportWith c d b v p).draws = s.draws ∧ (s.reportWith c d b v p).power = s.power ∧
    (s.reportWith c d b v p).tracker = s.tracker ∧ (s.reportWith c d b v p).machine = s.machine ∧
    (s.reportWith c d b v p).profiles = s.profiles ∧ (s.reportWith c d b v p).assign = s.assign ∧
    (s.reportWith c d b v p).store = s.store ∧ (s.reportWith c d b v p).player = s.player ∧
    (s.reportWith c d b v p).lists = s.lists ∧ (s.reportWith c d b v p).referencing = s.referencing := by
  and_intros <;> (unfold State.reportWith; (repeat' split) <;> simp)

@[simp] theorem State.report_keeps (s : State) (c : Cause) (d b : Nat) :
    (s.report c d b).pending = s.pending ∧ (s.report c d b).now = s.now ∧ (s.report c d b).draws = s.draws ∧
    (s.report c d b).power = s.power ∧ (s.report c d b).tracker = s.tracker ∧
    (s.report c d b).machine = s.machine ∧ (s.report c d b).profiles = s.profiles ∧
    (s.report c d b).assign = s.assign ∧ (s.report c d b).store = s.store ∧ (s.report c d b).player = s.player ∧
    (s.report c d b).lists = s.lists ∧ (s.report c d b).referencing = s.referencing := by
  and_intros <;> (simp [State.report])

@[simp] theorem State.faultChannel_keeps (s : State) (b : Nat) (c : Cause) (d e : Nat) (x : Int) :
    (s.faultChannel b c d e x).pending = s.pending ∧ (s.faultChannel b c d e x).now = s.now ∧
    (s.faultChannel b c d e x).power = s.power ∧ (s.faultChannel b c d e x).tracker = s.tracker ∧
    (s.faultChannel b c d e x).machine = s.machine ∧ (s.faultChannel b c d e x).profiles = s.profiles ∧
    (s.faultChannel b c d e x).assign = s.assign ∧ (s.faultChannel b c d e x).store = s.store ∧
    (s.faultChannel b c d e x).player = s.player ∧ (s.faultChannel b c d e x).lists = s.lists := by
  and_intros <;> (unfold State.faultChannel; simp only []; split <;> simp [State.notifyBarFault])

@[simp] theorem State.faultUncompared_keeps (s : State) (b : Nat) (c : Cause) (d : Nat) :
    (s.faultUncompared b c d).pending = s.pending ∧ (s.faultUncompared b c d).now = s.now ∧
    (s.faultUncompared b c d).power = s.power ∧ (s.faultUncompared b c d).tracker = s.tracker ∧
    (s.faultUncompared b c d).machine = s.machine ∧ (s.faultUncompared b c d).profiles = s.profiles ∧
    (s.faultUncompared b c d).assign = s.assign ∧ (s.faultUncompared b c d).store = s.store ∧
    (s.faultUncompared b c d).player = s.player ∧ (s.faultUncompared b c d).lists = s.lists := by
  and_intros <;> (simp [State.faultUncompared])

@[simp] theorem State.shaftMoved_keeps (s : State) :
    s.shaftMoved.pending = s.pending ∧ s.shaftMoved.now = s.now ∧ s.shaftMoved.power = s.power ∧
    s.shaftMoved.tracker = s.tracker ∧ s.shaftMoved.machine = s.machine ∧ s.shaftMoved.profiles = s.profiles ∧
    s.shaftMoved.assign = s.assign ∧ s.shaftMoved.store = s.store ∧ s.shaftMoved.player = s.player ∧
    s.shaftMoved.lists = s.lists ∧ s.shaftMoved.planner = s.planner ∧ s.shaftMoved.permitLine = s.permitLine := by
  and_intros <;> (unfold State.shaftMoved; simp only []; split <;> simp)

@[simp] theorem State.leaveLocked_keeps (s : State) :
    s.leaveLocked.pending = s.pending ∧ s.leaveLocked.now = s.now ∧ s.leaveLocked.draws = s.draws ∧
    s.leaveLocked.power = s.power ∧ s.leaveLocked.machine = s.machine ∧ s.leaveLocked.profiles = s.profiles ∧
    s.leaveLocked.assign = s.assign ∧ s.leaveLocked.store = s.store ∧ s.leaveLocked.player = s.player ∧
    s.leaveLocked.lists = s.lists ∧ s.leaveLocked.planner = s.planner ∧
    s.leaveLocked.referencing = s.referencing ∧ s.leaveLocked.run = s.run ∧
    s.leaveLocked.permitLine = s.permitLine ∧ s.leaveLocked.link = s.link := by
  and_intros <;> (simp [State.leaveLocked])

@[simp] theorem State.changeSync_keeps (s : State) (n : SyncState) (a : Nat) (v : Int) (c : SyncCause) (b : Nat) :
    (s.changeSync n a v c b).pending = s.pending ∧ (s.changeSync n a v c b).now = s.now ∧
    (s.changeSync n a v c b).draws = s.draws ∧ (s.changeSync n a v c b).power = s.power ∧
    (s.changeSync n a v c b).machine = s.machine ∧ (s.changeSync n a v c b).profiles = s.profiles ∧
    (s.changeSync n a v c b).assign = s.assign ∧ (s.changeSync n a v c b).store = s.store ∧
    (s.changeSync n a v c b).player = s.player ∧ (s.changeSync n a v c b).lists = s.lists ∧
    (s.changeSync n a v c b).planner = s.planner ∧ (s.changeSync n a v c b).channels = s.channels ∧
    (s.changeSync n a v c b).referencing = s.referencing ∧ (s.changeSync n a v c b).run = s.run ∧
    (s.changeSync n a v c b).permitLine = s.permitLine := by
  and_intros <;> rfl

@[simp] theorem State.reportUnderrun_keeps (s : State) :
    s.reportUnderrun.pending = s.pending ∧ s.reportUnderrun.now = s.now ∧ s.reportUnderrun.draws = s.draws ∧
    s.reportUnderrun.power = s.power ∧ s.reportUnderrun.tracker = s.tracker ∧
    s.reportUnderrun.machine = s.machine ∧ s.reportUnderrun.profiles = s.profiles ∧
    s.reportUnderrun.assign = s.assign ∧ s.reportUnderrun.store = s.store ∧ s.reportUnderrun.player = s.player ∧
    s.reportUnderrun.referencing = s.referencing := by
  and_intros <;> (unfold State.reportUnderrun; split <;> simp)

@[simp] theorem State.reportRunEnd_keeps (s : State) (d : Nat) :
    (s.reportRunEnd d).pending = s.pending ∧ (s.reportRunEnd d).now = s.now ∧ (s.reportRunEnd d).draws = s.draws ∧
    (s.reportRunEnd d).power = s.power ∧ (s.reportRunEnd d).tracker = s.tracker ∧
    (s.reportRunEnd d).machine = s.machine ∧ (s.reportRunEnd d).profiles = s.profiles ∧
    (s.reportRunEnd d).assign = s.assign ∧ (s.reportRunEnd d).store = s.store ∧
    (s.reportRunEnd d).player = s.player ∧ (s.reportRunEnd d).planner = s.planner ∧
    (s.reportRunEnd d).channels = s.channels ∧ (s.reportRunEnd d).referencing = s.referencing ∧
    (s.reportRunEnd d).run = s.run ∧ (s.reportRunEnd d).permitLine = s.permitLine := by
  and_intros <;> (unfold State.reportRunEnd; split <;> simp)

@[simp] theorem State.reportStarved_keeps (s : State) :
    s.reportStarved.pending = s.pending ∧ s.reportStarved.now = s.now ∧ s.reportStarved.draws = s.draws ∧
    s.reportStarved.power = s.power ∧ s.reportStarved.tracker = s.tracker ∧ s.reportStarved.machine = s.machine ∧
    s.reportStarved.profiles = s.profiles ∧ s.reportStarved.assign = s.assign ∧ s.reportStarved.store = s.store ∧
    s.reportStarved.player = s.player ∧ s.reportStarved.planner = s.planner ∧
    s.reportStarved.channels = s.channels ∧ s.reportStarved.referencing = s.referencing ∧
    s.reportStarved.run = s.run ∧ s.reportStarved.permitLine = s.permitLine := by
  and_intros <;> (unfold State.reportStarved; split <;> simp)

@[simp] theorem State.crossForward_keeps (s : State) :
    s.crossForward.pending = s.pending ∧ s.crossForward.now = s.now ∧ s.crossForward.draws = s.draws ∧
    s.crossForward.power = s.power ∧ s.crossForward.tracker = s.tracker ∧ s.crossForward.machine = s.machine ∧
    s.crossForward.profiles = s.profiles ∧ s.crossForward.assign = s.assign ∧ s.crossForward.store = s.store ∧
    s.crossForward.player = s.player ∧ s.crossForward.referencing = s.referencing := by
  and_intros <;> (unfold State.crossForward; simp only []; (repeat' split) <;> simp)

@[simp] theorem State.crossBackward_keeps (s : State) :
    s.crossBackward.pending = s.pending ∧ s.crossBackward.now = s.now ∧ s.crossBackward.draws = s.draws ∧
    s.crossBackward.power = s.power ∧ s.crossBackward.tracker = s.tracker ∧ s.crossBackward.machine = s.machine ∧
    s.crossBackward.profiles = s.profiles ∧ s.crossBackward.assign = s.assign ∧ s.crossBackward.store = s.store ∧
    s.crossBackward.player = s.player ∧ s.crossBackward.referencing = s.referencing := by
  and_intros <;> (unfold State.crossBackward; simp only []; (repeat' split) <;> simp)

@[simp] theorem State.arriveUnderlap_keeps (s : State) :
    s.arriveUnderlap.pending = s.pending ∧ s.arriveUnderlap.now = s.now ∧ s.arriveUnderlap.draws = s.draws ∧
    s.arriveUnderlap.power = s.power ∧ s.arriveUnderlap.tracker = s.tracker ∧
    s.arriveUnderlap.machine = s.machine ∧ s.arriveUnderlap.profiles = s.profiles ∧
    s.arriveUnderlap.assign = s.assign ∧ s.arriveUnderlap.store = s.store ∧ s.arriveUnderlap.player = s.player ∧
    s.arriveUnderlap.referencing = s.referencing := by
  and_intros <;> (unfold State.arriveUnderlap; (repeat' split) <;> simp)

@[simp] theorem State.departUnderlap_keeps (s : State) :
    s.departUnderlap.pending = s.pending ∧ s.departUnderlap.now = s.now ∧ s.departUnderlap.draws = s.draws ∧
    s.departUnderlap.power = s.power ∧ s.departUnderlap.tracker = s.tracker ∧
    s.departUnderlap.machine = s.machine ∧ s.departUnderlap.profiles = s.profiles ∧
    s.departUnderlap.assign = s.assign ∧ s.departUnderlap.store = s.store ∧ s.departUnderlap.player = s.player ∧
    s.departUnderlap.planner = s.planner ∧ s.departUnderlap.channels = s.channels ∧
    s.departUnderlap.referencing = s.referencing ∧ s.departUnderlap.run = s.run ∧
    s.departUnderlap.permitLine = s.permitLine ∧ s.departUnderlap.link = s.link := by
  and_intros <;> rfl

@[simp] theorem State.stoppedCheck_keeps (s : State) :
    s.stoppedCheck.pending = s.pending ∧ s.stoppedCheck.now = s.now ∧ s.stoppedCheck.draws = s.draws ∧
    s.stoppedCheck.power = s.power ∧ s.stoppedCheck.tracker = s.tracker ∧ s.stoppedCheck.machine = s.machine ∧
    s.stoppedCheck.profiles = s.profiles ∧ s.stoppedCheck.assign = s.assign ∧ s.stoppedCheck.store = s.store ∧
    s.stoppedCheck.player = s.player ∧ s.stoppedCheck.planner = s.planner ∧ s.stoppedCheck.channels = s.channels ∧
    s.stoppedCheck.referencing = s.referencing ∧ s.stoppedCheck.run = s.run ∧
    s.stoppedCheck.permitLine = s.permitLine := by
  and_intros <;> (unfold State.stoppedCheck; (repeat' split) <;> simp)

@[simp] theorem State.clearLists_keeps (s : State) :
    s.clearLists.pending = s.pending ∧ s.clearLists.now = s.now ∧ s.clearLists.draws = s.draws ∧
    s.clearLists.power = s.power ∧ s.clearLists.tracker = s.tracker ∧ s.clearLists.machine = s.machine ∧
    s.clearLists.profiles = s.profiles ∧ s.clearLists.assign = s.assign ∧ s.clearLists.store = s.store ∧
    s.clearLists.player = s.player ∧ s.clearLists.channels = s.channels ∧
    s.clearLists.referencing = s.referencing ∧ s.clearLists.link = s.link := by
  and_intros <;> (simp [State.clearLists])

@[simp] theorem State.pin_keeps (s : State) (t : List SeqStep) :
    (s.pin t).pending = s.pending ∧ (s.pin t).now = s.now ∧ (s.pin t).draws = s.draws ∧
    (s.pin t).power = s.power ∧ (s.pin t).tracker = s.tracker ∧ (s.pin t).machine = s.machine ∧
    (s.pin t).profiles = s.profiles ∧ (s.pin t).assign = s.assign ∧ (s.pin t).player = s.player ∧
    (s.pin t).lists = s.lists ∧ (s.pin t).planner = s.planner ∧ (s.pin t).channels = s.channels ∧
    (s.pin t).referencing = s.referencing ∧ (s.pin t).run = s.run ∧ (s.pin t).permitLine = s.permitLine ∧
    (s.pin t).link = s.link := by
  and_intros <;> rfl

@[simp] theorem State.unpin_keeps (s : State) (t : List SeqStep) :
    (s.unpin t).pending = s.pending ∧ (s.unpin t).now = s.now ∧ (s.unpin t).draws = s.draws ∧
    (s.unpin t).power = s.power ∧ (s.unpin t).tracker = s.tracker ∧ (s.unpin t).machine = s.machine ∧
    (s.unpin t).profiles = s.profiles ∧ (s.unpin t).assign = s.assign ∧ (s.unpin t).player = s.player ∧
    (s.unpin t).lists = s.lists ∧ (s.unpin t).planner = s.planner ∧ (s.unpin t).channels = s.channels ∧
    (s.unpin t).referencing = s.referencing ∧ (s.unpin t).run = s.run ∧ (s.unpin t).permitLine = s.permitLine ∧
    (s.unpin t).link = s.link := by
  and_intros <;> rfl

@[simp] theorem State.unpinOld_keeps (s : State) (t : Option (List SeqStep)) :
    (s.unpinOld t).pending = s.pending ∧ (s.unpinOld t).now = s.now ∧ (s.unpinOld t).draws = s.draws ∧
    (s.unpinOld t).power = s.power ∧ (s.unpinOld t).tracker = s.tracker ∧ (s.unpinOld t).machine = s.machine ∧
    (s.unpinOld t).profiles = s.profiles ∧ (s.unpinOld t).assign = s.assign ∧ (s.unpinOld t).player = s.player ∧
    (s.unpinOld t).lists = s.lists ∧ (s.unpinOld t).planner = s.planner ∧ (s.unpinOld t).channels = s.channels ∧
    (s.unpinOld t).referencing = s.referencing ∧ (s.unpinOld t).run = s.run ∧
    (s.unpinOld t).permitLine = s.permitLine ∧ (s.unpinOld t).link = s.link := by
  and_intros <;> (cases t <;> rfl)

@[simp] theorem State.takeSwitch_keeps (s : State) (m : SwitchMode) :
    (s.takeSwitch m).pending = s.pending ∧ (s.takeSwitch m).now = s.now ∧ (s.takeSwitch m).draws = s.draws ∧
    (s.takeSwitch m).power = s.power ∧ (s.takeSwitch m).tracker = s.tracker ∧
    (s.takeSwitch m).machine = s.machine ∧ (s.takeSwitch m).profiles = s.profiles ∧
    (s.takeSwitch m).assign = s.assign ∧ (s.takeSwitch m).lists = s.lists ∧ (s.takeSwitch m).planner = s.planner ∧
    (s.takeSwitch m).channels = s.channels ∧ (s.takeSwitch m).referencing = s.referencing ∧
    (s.takeSwitch m).run = s.run ∧ (s.takeSwitch m).permitLine = s.permitLine := by
  and_intros <;> (unfold State.takeSwitch; split <;> simp)

@[simp] theorem State.stopFeed_keeps (s : State) (x : SeqStep) (b p : Nat) :
    (s.stopFeed x b p).pending = s.pending ∧ (s.stopFeed x b p).now = s.now ∧ (s.stopFeed x b p).draws = s.draws ∧
    (s.stopFeed x b p).power = s.power ∧ (s.stopFeed x b p).tracker = s.tracker ∧
    (s.stopFeed x b p).machine = s.machine ∧ (s.stopFeed x b p).profiles = s.profiles ∧
    (s.stopFeed x b p).assign = s.assign ∧ (s.stopFeed x b p).store = s.store ∧
    (s.stopFeed x b p).lists = s.lists ∧ (s.stopFeed x b p).planner = s.planner ∧
    (s.stopFeed x b p).channels = s.channels ∧ (s.stopFeed x b p).referencing = s.referencing ∧
    (s.stopFeed x b p).run = s.run ∧ (s.stopFeed x b p).permitLine = s.permitLine := by
  and_intros <;> rfl

@[simp] theorem State.feedCourse_keeps (s : State) (t : List SeqStep) (x : SeqStep) :
    (s.feedCourse t x).pending = s.pending ∧ (s.feedCourse t x).now = s.now ∧ (s.feedCourse t x).draws = s.draws ∧
    (s.feedCourse t x).power = s.power ∧ (s.feedCourse t x).tracker = s.tracker ∧
    (s.feedCourse t x).machine = s.machine ∧ (s.feedCourse t x).profiles = s.profiles ∧
    (s.feedCourse t x).assign = s.assign ∧ (s.feedCourse t x).channels = s.channels ∧
    (s.feedCourse t x).referencing = s.referencing := by
  and_intros <;> (unfold State.feedCourse; simp only []; (repeat' split) <;> simp)

@[simp] theorem State.feedOne_keeps (s : State) :
    s.feedOne.pending = s.pending ∧ s.feedOne.now = s.now ∧ s.feedOne.draws = s.draws ∧
    s.feedOne.power = s.power ∧ s.feedOne.tracker = s.tracker ∧ s.feedOne.machine = s.machine ∧
    s.feedOne.profiles = s.profiles ∧ s.feedOne.assign = s.assign ∧ s.feedOne.channels = s.channels ∧
    s.feedOne.referencing = s.referencing := by
  and_intros <;> (unfold State.feedOne; (repeat' split) <;> simp)

@[simp] theorem State.feedUpTo_keeps (s : State) (n : Nat) :
    (State.feedUpTo n s).pending = s.pending ∧ (State.feedUpTo n s).now = s.now ∧
    (State.feedUpTo n s).draws = s.draws ∧ (State.feedUpTo n s).power = s.power ∧
    (State.feedUpTo n s).tracker = s.tracker ∧ (State.feedUpTo n s).machine = s.machine ∧
    (State.feedUpTo n s).profiles = s.profiles ∧ (State.feedUpTo n s).assign = s.assign ∧
    (State.feedUpTo n s).channels = s.channels ∧ (State.feedUpTo n s).referencing = s.referencing := by
  induction n generalizing s with
  | zero => simp [State.feedUpTo]
  | succ n ih => unfold State.feedUpTo; split <;> simp [ih]

@[simp] theorem State.feed_keeps (s : State) :
    s.feed.pending = s.pending ∧ s.feed.now = s.now ∧ s.feed.draws = s.draws ∧ s.feed.power = s.power ∧
    s.feed.tracker = s.tracker ∧ s.feed.machine = s.machine ∧ s.feed.profiles = s.profiles ∧
    s.feed.assign = s.assign ∧ s.feed.channels = s.channels ∧ s.feed.referencing = s.referencing := by
  and_intros <;> (simp [State.feed])

@[simp] theorem State.enterHoldFromStandby_keeps (s : State) :
    s.enterHoldFromStandby.pending = s.pending ∧ s.enterHoldFromStandby.now = s.now ∧
    s.enterHoldFromStandby.draws = s.draws ∧ s.enterHoldFromStandby.power = s.power ∧
    s.enterHoldFromStandby.tracker = s.tracker ∧ s.enterHoldFromStandby.machine = s.machine ∧
    s.enterHoldFromStandby.profiles = s.profiles ∧ s.enterHoldFromStandby.assign = s.assign ∧
    s.enterHoldFromStandby.channels = s.channels ∧ s.enterHoldFromStandby.referencing = s.referencing := by
  and_intros <;> (simp [State.enterHoldFromStandby, State.enter, State.notifyReached, State.permitDue])

@[simp] theorem State.startAlignment_keeps (s : State) :
    s.startAlignment.pending = s.pending ∧ s.startAlignment.now = s.now ∧ s.startAlignment.draws = s.draws ∧
    s.startAlignment.power = s.power ∧ s.startAlignment.tracker = s.tracker ∧
    s.startAlignment.machine = s.machine ∧ s.startAlignment.profiles = s.profiles ∧
    s.startAlignment.assign = s.assign ∧ s.startAlignment.store = s.store ∧ s.startAlignment.player = s.player ∧
    s.startAlignment.lists = s.lists ∧ s.startAlignment.planner = s.planner ∧
    s.startAlignment.referencing = s.referencing ∧ s.startAlignment.permitLine = s.permitLine ∧
    s.startAlignment.link = s.link := by
  and_intros <;> rfl

@[simp] theorem State.startFollowing_keeps (s : State) :
    s.startFollowing.pending = s.pending ∧ s.startFollowing.now = s.now ∧ s.startFollowing.draws = s.draws ∧
    s.startFollowing.power = s.power ∧ s.startFollowing.tracker = s.tracker ∧
    s.startFollowing.machine = s.machine ∧ s.startFollowing.profiles = s.profiles ∧
    s.startFollowing.assign = s.assign ∧ s.startFollowing.store = s.store ∧ s.startFollowing.player = s.player ∧
    s.startFollowing.lists = s.lists ∧ s.startFollowing.planner = s.planner ∧
    s.startFollowing.referencing = s.referencing ∧ s.startFollowing.run = s.run ∧
    s.startFollowing.permitLine = s.permitLine ∧ s.startFollowing.link = s.link := by
  and_intros <;> rfl

@[simp] theorem State.bindOnRun_keeps (s : State) :
    s.bindOnRun.pending = s.pending ∧ s.bindOnRun.now = s.now ∧ s.bindOnRun.draws = s.draws ∧
    s.bindOnRun.power = s.power ∧ s.bindOnRun.tracker = s.tracker ∧ s.bindOnRun.machine = s.machine ∧
    s.bindOnRun.profiles = s.profiles ∧ s.bindOnRun.assign = s.assign ∧ s.bindOnRun.store = s.store ∧
    s.bindOnRun.player = s.player ∧ s.bindOnRun.planner = s.planner ∧ s.bindOnRun.channels = s.channels ∧
    s.bindOnRun.referencing = s.referencing ∧ s.bindOnRun.run = s.run ∧ s.bindOnRun.permitLine = s.permitLine ∧
    s.bindOnRun.link = s.link := by
  and_intros <;> (unfold State.bindOnRun; split <;> rfl)

@[simp] theorem State.enterRun_keeps (s : State) :
    s.enterRun.pending = s.pending ∧ s.enterRun.now = s.now ∧ s.enterRun.draws = s.draws ∧
    s.enterRun.power = s.power ∧ s.enterRun.tracker = s.tracker ∧ s.enterRun.machine = s.machine ∧
    s.enterRun.profiles = s.profiles ∧ s.enterRun.assign = s.assign ∧ s.enterRun.store = s.store ∧
    s.enterRun.player = s.player ∧ s.enterRun.referencing = s.referencing := by
  and_intros <;> (simp [State.enterRun, State.enter, State.notifyReached, State.permitDue])

@[simp] theorem State.enterHold_keeps (s : State) :
    s.enterHold.pending = s.pending ∧ s.enterHold.now = s.now ∧ s.enterHold.draws = s.draws ∧
    s.enterHold.power = s.power ∧ s.enterHold.tracker = s.tracker ∧ s.enterHold.machine = s.machine ∧
    s.enterHold.profiles = s.profiles ∧ s.enterHold.assign = s.assign ∧ s.enterHold.referencing = s.referencing := by
  and_intros <;> (simp [State.enterHold, State.enter, State.notifyReached, State.permitDue])

@[simp] theorem State.enterStandby_keeps (s : State) :
    s.enterStandby.pending = s.pending ∧ s.enterStandby.now = s.now ∧ s.enterStandby.power = s.power ∧
    s.enterStandby.tracker = s.tracker ∧ s.enterStandby.machine = s.machine ∧
    s.enterStandby.profiles = s.profiles ∧ s.enterStandby.assign = s.assign ∧ s.enterStandby.store = s.store := by
  and_intros <;> (simp [State.enterStandby, State.enter, State.notifyReached, State.permitDue])

@[simp] theorem State.perform_keeps (s : State) (d : DueStep) :
    (s.perform d).pending = s.pending ∧ (s.perform d).now = s.now ∧ (s.perform d).power = s.power ∧
    (s.perform d).tracker = s.tracker ∧ (s.perform d).machine = s.machine ∧ (s.perform d).profiles = s.profiles ∧
    (s.perform d).assign = s.assign := by
  and_intros <;> (cases d <;> simp [State.perform])

@[simp] theorem State.takeDue_keeps (s : State) :
    s.takeDue.pending = s.pending ∧ s.takeDue.now = s.now ∧ s.takeDue.power = s.power ∧
    s.takeDue.tracker = s.tracker ∧ s.takeDue.machine = s.machine ∧ s.takeDue.profiles = s.profiles ∧
    s.takeDue.assign = s.assign := by
  and_intros <;> (unfold State.takeDue; split <;> simp)

@[simp] theorem State.settleRun_keeps (s : State) :
    s.settleRun.pending = s.pending ∧ s.settleRun.now = s.now ∧ s.settleRun.power = s.power ∧
    s.settleRun.tracker = s.tracker ∧ s.settleRun.machine = s.machine ∧ s.settleRun.profiles = s.profiles ∧
    s.settleRun.assign = s.assign := by
  and_intros <;> (simp [State.settleRun])

@[simp] theorem State.listsForward_keeps (s : State) :
    s.listsForward.pending = s.pending ∧ s.listsForward.now = s.now ∧ s.listsForward.draws = s.draws ∧
    s.listsForward.power = s.power ∧ s.listsForward.tracker = s.tracker ∧ s.listsForward.machine = s.machine ∧
    s.listsForward.profiles = s.profiles ∧ s.listsForward.assign = s.assign ∧ s.listsForward.store = s.store ∧
    s.listsForward.player = s.player ∧ s.listsForward.referencing = s.referencing := by
  and_intros <;> (unfold State.listsForward; split <;> simp)

@[simp] theorem State.crossingReports_keeps (s : State) :
    s.crossingReports.pending = s.pending ∧ s.crossingReports.now = s.now ∧ s.crossingReports.power = s.power ∧
    s.crossingReports.tracker = s.tracker ∧ s.crossingReports.machine = s.machine ∧
    s.crossingReports.profiles = s.profiles ∧ s.crossingReports.assign = s.assign ∧
    s.crossingReports.store = s.store ∧ s.crossingReports.player = s.player ∧
    s.crossingReports.referencing = s.referencing := by
  and_intros <;> (unfold State.crossingReports; (repeat' split) <;> simp)

@[simp] theorem State.forwardCrossing_keeps (s : State) :
    s.forwardCrossing.pending = s.pending ∧ s.forwardCrossing.now = s.now ∧ s.forwardCrossing.power = s.power ∧
    s.forwardCrossing.machine = s.machine ∧ s.forwardCrossing.profiles = s.profiles ∧
    s.forwardCrossing.assign = s.assign ∧ s.forwardCrossing.referencing = s.referencing := by
  and_intros <;> (simp [State.forwardCrossing, State.closeCourse, State.permitDue])

@[simp] theorem State.backwardCrossing_keeps (s : State) :
    s.backwardCrossing.pending = s.pending ∧ s.backwardCrossing.now = s.now ∧ s.backwardCrossing.draws = s.draws ∧
    s.backwardCrossing.power = s.power ∧ s.backwardCrossing.machine = s.machine ∧
    s.backwardCrossing.profiles = s.profiles ∧ s.backwardCrossing.assign = s.assign ∧
    s.backwardCrossing.store = s.store ∧ s.backwardCrossing.player = s.player ∧
    s.backwardCrossing.referencing = s.referencing := by
  and_intros <;> (unfold State.backwardCrossing; simp only []; split <;> simp)

@[simp] theorem State.underlapArrival_keeps (s : State) :
    s.underlapArrival.pending = s.pending ∧ s.underlapArrival.now = s.now ∧ s.underlapArrival.draws = s.draws ∧
    s.underlapArrival.power = s.power ∧ s.underlapArrival.machine = s.machine ∧
    s.underlapArrival.profiles = s.profiles ∧ s.underlapArrival.assign = s.assign ∧
    s.underlapArrival.store = s.store ∧ s.underlapArrival.player = s.player ∧
    s.underlapArrival.referencing = s.referencing := by
  and_intros <;> (unfold State.underlapArrival; simp only []; split <;> simp)

@[simp] theorem State.underlapDeparture_keeps (s : State) :
    s.underlapDeparture.pending = s.pending ∧ s.underlapDeparture.now = s.now ∧
    s.underlapDeparture.draws = s.draws ∧ s.underlapDeparture.power = s.power ∧
    s.underlapDeparture.machine = s.machine ∧ s.underlapDeparture.profiles = s.profiles ∧
    s.underlapDeparture.assign = s.assign ∧ s.underlapDeparture.store = s.store ∧
    s.underlapDeparture.player = s.player ∧ s.underlapDeparture.planner = s.planner ∧
    s.underlapDeparture.channels = s.channels ∧ s.underlapDeparture.referencing = s.referencing ∧
    s.underlapDeparture.run = s.run ∧ s.underlapDeparture.permitLine = s.permitLine ∧
    s.underlapDeparture.link = s.link := by
  and_intros <;> (unfold State.underlapDeparture; simp only []; split <;> simp)

@[simp] theorem State.raise_keeps (s : State) (e : Option ShaftEvent) :
    (s.raise e).pending = s.pending ∧ (s.raise e).now = s.now ∧ (s.raise e).power = s.power ∧
    (s.raise e).machine = s.machine ∧ (s.raise e).profiles = s.profiles ∧ (s.raise e).assign = s.assign ∧
    (s.raise e).referencing = s.referencing := by
  and_intros <;> (unfold State.raise; split <;> simp)

end Sys2Proof.Machine
end

