-- ==== Sys2Proof/Laws/Ops.lean ====
section
/-! SUPPORT. What the shared operations do, said once: what comes due before a command, the channels, the notice queue, the
publishing of the permit. -/

namespace Sys2Proof.Machine

/-! ### Before a command -/

/-- With nothing due the run controller's steps change nothing. -/
theorem State.settleRun_of_none {s : State} (h : s.dueStep = none) : s.settleRun = s := by
  simp [State.settleRun, State.takeDue, h]

/-- A quiet part is ready as it stands. -/
theorem State.ready_of_quiet {s : State} (h : s.Quiet) : s.ready = s := by
  obtain ⟨-, ho, hd⟩ := h
  unfold State.ready State.dueReset State.takeOwed
  rw [State.settleRun_of_none hd]
  simp [ho]

/-- A quiet part is not held. -/
theorem State.isHeld_of_quiet {s : State} (h : s.Quiet) : s.isHeld = false := by
  simp [State.isHeld, h.1]

/-- An event of a quiet part is the event alone. -/
theorem State.event_of_quiet {s : State} (h : s.Quiet) (f : State → State) : s.event f = f s := by
  simp only [State.event, State.after, State.isHeld_of_quiet h, State.ready_of_quiet h, Bool.false_eq_true, if_false]
  rfl

/-- A timed event of a quiet part: the clock moves on, then the event. -/
theorem State.after_of_quiet {s : State} (h : s.Quiet) (dt : Nat) (f : State → State) :
    s.after dt f = f (s.elapse dt) := by
  simp [State.after, State.isHeld_of_quiet h, State.ready_of_quiet h]

/-- A request that finds a quiet part and a free port is taken, handled by its owner, and answered. -/
theorem State.request_of_free {s : State} (h : s.Quiet) (p : s.PortFree) (tag : Tag) (r : Request) :
    s.request tag r = (s.taken tag r).answer ⟨tag, r⟩ := by
  obtain ⟨hp, ho, -⟩ := h
  obtain ⟨ht, hb⟩ := p
  have e : s.hunt.updLink (fun l => { l with buffer := l.buffer ++ [⟨tag, r⟩] }) = s.taken tag r := by
    simp [State.taken, State.hunt, State.updLink, hb]
  simp only [State.request, State.isRunning, hp, State.offerRequest, State.hunt_link, hb, e]
  simp [State.serve, State.taken, State.updLink, ht, ho, Config.bufferRoom]

/-- The answer to a request whose owner leaves nothing due. -/
theorem State.answer_of_handle {s t : State} {tag : Tag} {r : Request} {a : Answer} (h : s.handle r = (t, a))
    (hd : t.dueStep = none) : s.answer ⟨tag, r⟩ = t.answered tag r a.result a.payload := by
  simp [State.answer, h, State.settleRun_of_none hd, State.replyTo, State.answered]

/-- A request that its owner refuses on a quiet part with a free port changes nothing but the link. -/
theorem State.request_refused {s : State} (h : s.Quiet) (p : s.PortFree) {tag : Tag} {r : Request} {a : Answer}
    (hr : (s.taken tag r).handle r = (s.taken tag r, a)) : s.request tag r = s.replies tag r a.result a.payload := by
  rw [State.request_of_free h p, State.answer_of_handle hr (by exact h.2.2)]
  rfl

/-- A change of the link alone makes nothing due. -/
@[simp] theorem State.dueStep_updLink (s : State) (f : Link → Link) : (s.updLink f).dueStep = s.dueStep := rfl

/-- Taking a request makes nothing due. -/
@[simp] theorem State.dueStep_taken (s : State) (tag : Tag) (r : Request) : (s.taken tag r).dueStep = s.dueStep := rfl

/-- Nothing is due in STANDBY but the end of the enabling. -/
theorem State.dueStep_standby {s : State} (h : s.run.state = .standby) (hc : s.run.changing = false) :
    s.dueStep = none := by
  unfold State.dueStep
  simp only [h, hc]
  split <;> simp_all

/-- With nothing requested nothing is due. -/
theorem State.dueStep_idle {s : State} (hc : s.run.changing = false) (hw : s.run.waiting = false) : s.dueStep = none := by
  unfold State.dueStep; rw [hc, hw]

/-- What is due while the channels are being enabled (09, R159). -/
theorem State.dueStep_enabling {s : State} (hc : s.run.changing = true) (hq : s.run.requested = some .hold)
    (hs : s.run.state = .standby) : s.dueStep = if s.doneEnergizing then some .enterHoldFromStandby else none := by
  unfold State.dueStep; rw [hc, hq, hs]

/-- What is due during an alignment (09, R161). -/
theorem State.dueStep_aligning {s : State} (hc : s.run.changing = true) (hq : s.run.requested = some .run)
    (hs : s.run.state = .hold) : s.dueStep = if s.allAligned then some .enterRun else none := by
  unfold State.dueStep; rw [hc, hq, hs]

/-- What is due during a wait toward RUN (09, R160). -/
theorem State.dueStep_waiting {s : State} (hc : s.run.changing = false) (hw : s.run.waiting = true)
    (hq : s.run.requested = some .run) (hs : s.run.state = .hold) :
    s.dueStep = if s.fitForRun then some .alignmentStart else none := by
  unfold State.dueStep; rw [hc, hw, hq, hs]

/-- What is due while a request toward HOLD waits in RUN or HALT (09, R163). -/
theorem State.dueStep_leavingToHold {s : State} (hc : s.run.changing = false) (hw : s.run.waiting = true)
    (hq : s.run.requested = some .hold) (hs : s.run.state = .run ∨ s.run.state = .halt) :
    s.dueStep = if s.tracker.stopped then some .enterHold else none := by
  unfold State.dueStep; rcases hs with hs | hs <;> rw [hc, hw, hq, hs]

/-- What is due while a request toward STANDBY waits in RUN or HALT (09, R163). -/
theorem State.dueStep_leavingToStandby {s : State} (hc : s.run.changing = false) (hw : s.run.waiting = true)
    (hq : s.run.requested = some .standby) (hs : s.run.state = .run ∨ s.run.state = .halt) :
    s.dueStep = if s.tracker.stopped then some .enterStandby else none := by
  unfold State.dueStep; rcases hs with hs | hs <;> rw [hc, hw, hq, hs]

/-! ### The judging of lists -/

/-- The first bad item of a list, whatever stood before it and wherever the count begins. -/
theorem firstBad_eq_some {α : Type} (bad : List α → α → Bool) (l : List α) :
    ∀ (n : Nat) (before : List α) (k : Nat), firstBad bad n before l = some k ↔
      ∃ i x, k = n + i ∧ l[i]? = some x ∧ bad (before ++ l.take i) x = true ∧
        ∀ j, j < i → ∀ y, l[j]? = some y → bad (before ++ l.take j) y = false := by
  induction l with
  | nil => simp [firstBad]
  | cons x xs ih =>
    intro n before k
    unfold firstBad
    cases hb : bad before x
    · simp only [Bool.false_eq_true, if_false, ih]
      constructor
      · rintro ⟨i, y, rfl, hy, hi, hj⟩
        refine ⟨i + 1, y, by omega, by simpa using hy, by simpa using hi, fun j hlt z hz => ?_⟩
        cases j with
        | zero => simp only [List.getElem?_cons_zero, Option.some.injEq] at hz; simpa [← hz] using hb
        | succ j => simpa using hj j (by omega) z (by simpa using hz)
      · rintro ⟨i, y, rfl, hy, hi, hj⟩
        cases i with
        | zero => simp only [List.getElem?_cons_zero, Option.some.injEq] at hy; simp [← hy, hb] at hi
        | succ i =>
          exact ⟨i, y, by omega, by simpa using hy, by simpa using hi,
            fun j hlt z hz => by simpa using hj (j + 1) (by omega) z (by simpa using hz)⟩
    · simp only [if_true, Option.some.injEq]
      constructor
      · rintro rfl
        exact ⟨0, x, by simp, by simp, by simpa using hb, by simp⟩
      · rintro ⟨i, y, rfl, -, -, hj⟩
        cases i with
        | zero => rfl
        | succ i => simpa [hb] using hj 0 (by omega) x (by simp)

/-- No item of a list is bad. -/
theorem firstBad_eq_none {α : Type} (bad : List α → α → Bool) (l : List α) :
    ∀ (n : Nat) (before : List α), firstBad bad n before l = none ↔
      ∀ i x, l[i]? = some x → bad (before ++ l.take i) x = false := by
  induction l with
  | nil => simp [firstBad]
  | cons x xs ih =>
    intro n before
    unfold firstBad
    cases hb : bad before x
    · simp only [Bool.false_eq_true, if_false, ih]
      constructor
      · intro h i y hy
        cases i with
        | zero => simp only [List.getElem?_cons_zero, Option.some.injEq] at hy; simpa [← hy] using hb
        | succ i => simpa using h i y (by simpa using hy)
      · intro h i y hy
        simpa using h (i + 1) y (by simpa using hy)
    · simp only [if_true, reduceCtorEq, false_iff, not_forall]
      exact ⟨0, x, by simp, by simp [hb]⟩

/-- The first check that fails, wherever the count begins. -/
theorem firstFalse_eq_some (l : List Bool) :
    ∀ n k : Nat, firstFalse n l = some k ↔ ∃ i, k = n + i ∧ l[i]? = some false ∧ ∀ j, j < i → l[j]? = some true := by
  induction l with
  | nil => simp [firstFalse]
  | cons x xs ih =>
    intro n k
    unfold firstFalse
    cases x
    · simp only [Bool.false_eq_true, if_false, Option.some.injEq]
      constructor
      · rintro rfl
        exact ⟨0, by simp⟩
      · rintro ⟨i, rfl, -, hj⟩
        cases i with
        | zero => rfl
        | succ i => simpa using hj 0 (by omega)
    · simp only [if_true, ih]
      constructor
      · rintro ⟨i, rfl, hi, hj⟩
        refine ⟨i + 1, by omega, by simpa using hi, fun j hlt => ?_⟩
        cases j with
        | zero => rfl
        | succ j => simpa using hj j (by omega)
      · rintro ⟨i, rfl, hi, hj⟩
        cases i with
        | zero => simp at hi
        | succ i => exact ⟨i, by omega, by simpa using hi, fun j hlt => by simpa using hj (j + 1) (by omega)⟩

/-! ### Channels -/

@[simp] theorem mapFrom_length {α : Type} (f : Nat → α → α) (n : Nat) (l : List α) : (mapFrom f n l).length = l.length := by
  induction l generalizing n with
  | nil => rfl
  | cons x xs ih => simp [mapFrom, ih]

theorem mapFrom_getElem? {α : Type} (f : Nat → α → α) (n i : Nat) (l : List α) :
    (mapFrom f n l)[i]? = l[i]?.map (f (n + i)) := by
  induction l generalizing n i with
  | nil => simp [mapFrom]
  | cons x xs ih =>
    cases i with
    | zero => simp [mapFrom]
    | succ i => simp [mapFrom, ih, Nat.add_assoc, Nat.add_comm 1 i]

/-- The channel changed is changed. -/
theorem State.channel_updChannel {s : State} {b : Nat} (h : b - 1 < s.channels.length) (f : Channel → Channel) :
    (s.updChannel b f).channel b = f (s.channel b) := by
  simp [State.channel, State.updChannel, List.getD, h]

/-- The other channels are not. -/
theorem State.channel_updChannel_ne {s : State} {b b' : Nat} (h : b - 1 ≠ b' - 1) (f : Channel → Channel) :
    (s.updChannel b f).channel b' = s.channel b' := by
  simp [State.channel, State.updChannel, List.getD, h]

/-- Each channel after every channel was changed. -/
theorem State.channel_mapChannels {s : State} {b : Nat} (hb : 1 ≤ b) (h : b - 1 < s.channels.length)
    (f : Nat → Channel → Channel) : (s.mapChannels f).channel b = f b (s.channel b) := by
  have e : 1 + (b - 1) = b := by omega
  simp only [State.channel, State.mapChannels, List.getD, mapFrom_getElem?, e, List.getElem?_eq_getElem h,
    Option.map_some, Option.getD_some]

/-! ### Notices (10, R182) -/

/-- The queue never grows past its room. -/
theorem Link.offer_length (l : Link) (n : Notice) (h : l.notices.length ≤ Config.noticeRoom) :
    (l.offer n).notices.length ≤ Config.noticeRoom := by
  unfold Link.offer
  split
  · simp only [List.length_append, List.length_singleton]; omega
  · exact h

/-- A notice offered changes the notice queue and the overflow flag alone. -/
theorem Link.offer_frame (l : Link) (n : Notice) :
    l.offer n = { l with notices := (l.offer n).notices, overflow := (l.offer n).overflow } := by
  unfold Link.offer; split <;> rfl

/-! ### The permit (09, R154, R155) -/

/-- Publishing again changes the published permit, the peak and the permit line alone. -/
theorem State.publish_frame (s : State) :
    s.publish = { s with run := s.publish.run, permitLine := s.publish.permitLine } := by
  unfold State.publish; split <;> rfl

/-- What is published is what stands to be published. -/
theorem State.publish_published (s : State) : s.publish.run.published = s.permitToPublish := by
  unfold State.publish
  split
  · rename_i h; exact h.symm
  · rfl

/-- Publishing leaves the rest of the run controller. -/
theorem State.publish_run (s : State) :
    s.publish.run = { s.run with published := s.publish.run.published, peak := s.publish.run.peak } := by
  unfold State.publish; split <;> rfl

/-- Publishing does not look at the link. -/
theorem State.publish_updLink (s : State) (f : Link → Link) : (s.updLink f).publish = s.publish.updLink f := by
  unfold State.publish
  by_cases h : s.permitToPublish = s.run.published
  · rw [if_pos h, if_pos (show (s.updLink f).permitToPublish = (s.updLink f).run.published from h)]
  · rw [if_neg h, if_neg (show ¬(s.updLink f).permitToPublish = (s.updLink f).run.published from h)]; rfl

/-- Where 0 stands to be published, publishing sets it, and a change lets a permit frame fall due (09, R154). -/
theorem State.publish_zero {s : State} (h : s.permitToPublish = 0) :
    s.publish = { s with
      run := { s.run with published := 0 }
      permitLine := { s.permitLine with due := s.permitLine.due || s.run.published != 0 } } := by
  unfold State.publish
  rw [h]
  split
  · rename_i e
    simp [← e]
    cases s with | mk => simp_all
  · rename_i e
    have e' : s.run.published ≠ 0 := fun x => e x.symm
    simp [State.permitDue, State.updRun, State.updPermitLine, e']

/-- The first permit frame after a RESET changes the permit line alone: sent at once on a free line, due on a busy one. -/
theorem State.firstPermit_frame (s : State) :
    s.firstPermit = { s with permitLine :=
      if s.permitLine.busyUntil ≤ s.now then
        ⟨false, permitFrameBytes s.run.published s.stopActive s.run.state, s.now + lineTime s.link.rate 6⟩
      else { s.permitLine with due := true } } := by
  unfold State.firstPermit; split <;> rfl

/-- A recomputation sets the planner from the lists, and publishes. -/
theorem State.replan_planner (s : State) : s.replan.planner = planOf s.machine s.lists := by
  rw [State.replan, State.publish_frame]

/-! ### Bar sets (00, Conventions) -/

/-- A bar from 1 to 64 is in the set of the bars that satisfy `p` exactly when it satisfies `p`. -/
theorem inSet_barSet (p : Nat → Bool) {b : Nat} (h : barExists b = true) : inSet (barSet p) b = p b := by
  simp only [barExists, Bool.and_eq_true, decide_eq_true_eq] at h
  have h1 : b - 1 < 64 := by omega
  have h2 : 1 + (b - 1) = b := by omega
  simp only [inSet, barSet, BitVec.getLsbD_setWidth, h1, decide_true, Bool.true_and, BitVec.getLsbD_ofBoolListLE]
  simp [allBars, h2, List.getD, h1]

/-! ### Bytes (10, section 10.7) -/

/-- A number in `k` bytes is `k` bytes long. -/
@[simp] theorem beBytes_length (k n : Nat) : (beBytes k n).length = k := by
  induction k with
  | zero => rfl
  | succ k ih => simp [beBytes, ih]

/-- The bytes of a tag are four. -/
@[simp] theorem tagBytes_length (t : Tag) : (tagBytes t).length = 4 := beBytes_length 4 _

/-- Rounding up is the least number that is large enough (00, Arithmetic). -/
theorem divUp_le_iff {a b c : Nat} (hb : 0 < b) : divUp a b ≤ c ↔ a ≤ c * b := by
  unfold divUp
  rw [← Nat.lt_succ_iff, Nat.div_lt_iff_lt_mul hb, Nat.succ_mul]
  omega

end Sys2Proof.Machine
end

