-- ==== Sys2Proof/Laws/Append.lean ====
section
/-! SUPPORT. What an append brings about, whoever appends (05, R74): behind other records it joins the tail, and the record
that stood last has its ceiling; in empty lists it becomes current. -/

namespace Sys2Proof.Machine

/-- The record that stands last is the last one forward in knit order. -/
theorem Lists.getLast?_forward (l : Lists) : l.forward.getLast? = l.last := by
  unfold Lists.forward Lists.last
  cases h : l.after.getLast? with
  | none =>
    have : l.after = [] := by simpa using h
    rw [this]; cases l.current <;> simp
  | some r => rw [List.getLast?_append, h]; rfl

/-- The last item changed, of a list that is given with its last item. -/
theorem modifyLast_append {α : Type} (f : α → α) (ks : List α) (c : α) : modifyLast f (ks ++ [c]) = ks ++ [f c] := by
  induction ks with
  | nil => rfl
  | cons a ks ih =>
    cases ks with
    | nil => rfl
    | cons b ks => exact congrArg (a :: ·) ih

/-- Changing the last item keeps the length. -/
@[simp] theorem modifyLast_length {α : Type} (f : α → α) (l : List α) : (modifyLast f l).length = l.length := by
  rcases List.eq_nil_or_concat l with rfl | ⟨ks, c, rfl⟩
  · rfl
  · simp [modifyLast_append]

/-- The record that stands last changed: the records forward keep their places, and nothing but the three lists that hold them
changes. -/
theorem Lists.modifyLastRecord_spec (l : Lists) (f : CourseRecord → CourseRecord) {ks : List CourseRecord} {c : CourseRecord}
    (h : l.forward = ks ++ [c]) :
    let l' := l.modifyLastRecord f
    l'.forward = ks ++ [f c] ∧ l'.queue.length = l.queue.length ∧ l'.replay.length = l.replay.length ∧
      l' = { l with current := l'.current, replay := l'.replay, queue := l'.queue } := by
  unfold Lists.modifyLastRecord
  rcases List.eq_nil_or_concat l.queue with hq | ⟨q, a, hq⟩
  · rcases List.eq_nil_or_concat l.replay with hr | ⟨r, a, hr⟩
    · cases hc : l.current with
      | none => simp [Lists.forward, Lists.after, hq, hr, hc] at h
      | some x =>
        have h' : ks = [] ∧ x = c := by
          simp only [Lists.forward, Lists.after, hq, hr, hc, Option.toList_some, List.append_nil] at h
          cases ks <;> simp at h ⊢; exact h
        obtain ⟨rfl, rfl⟩ := h'
        simp [Lists.forward, Lists.after, hq, hr]
    · simp only [Lists.forward, Lists.after, hq, hr, List.concat_eq_append, List.append_nil, ← List.append_assoc] at h
      obtain ⟨rfl, h'⟩ := List.append_inj' h rfl
      obtain rfl : a = c := by simpa using h'
      simp [Lists.forward, Lists.after, hq, hr, modifyLast_append]
  · simp only [Lists.forward, Lists.after, hq, List.concat_eq_append, ← List.append_assoc] at h
    obtain ⟨rfl, h'⟩ := List.append_inj' h rfl
    obtain rfl : a = c := by simpa using h'
    simp [Lists.forward, Lists.after, hq, modifyLast_append]

/-- The record appended: its tag, origin and cap, and its laps with the rests resolved (05, R72). -/
def State.newRecord (s : State) (tag : Tag) (origin : Origin) (cap : Option Nat) (laps : List RawLap) : CourseRecord :=
  ⟨tag, origin, cap, false, laps.map s.resolve, none, false⟩

/-- A recomputation of the permit leaves the lists and the link (06, R107). -/
theorem State.replan_lists_link (s : State) :
    s.replan.lists = s.lists ∧ s.replan.link = s.link ∧ s.replan.planner = planOf s.machine s.lists := by
  rw [State.replan, State.publish_frame]; exact ⟨rfl, rfl, rfl⟩

/-- The notice of a ceiling (06, R104): none for a ceiling above 0 or a record that is marked already. -/
theorem State.reportInfeasible_of_not {s : State} {r n : CourseRecord} {c : Ceiling} (h : c.value ≠ 0 ∨ r.infeasible = true) :
    s.reportInfeasible r n c = s := by
  unfold State.reportInfeasible
  rcases h with h | h <;> simp [h]

/-- An append behind other records joins them (05, R74; 06, R102, R104). -/
theorem State.append_joins (s : State) (tag : Tag) (origin : Origin) (cap : Option Nat) (laps : List RawLap)
    (h : s.lists.forward ≠ []) :
    let t := s.append tag origin cap laps
    s.Joined t (s.newRecord tag origin cap laps) ∧ t.lists.expected = s.lists.expected := by
  obtain ⟨r, hr⟩ : ∃ r, r = s.newRecord tag origin cap laps := ⟨_, rfl⟩
  obtain ⟨ks, c, hk⟩ : ∃ ks c, s.lists.forward = ks ++ [c] :=
    ⟨_, _, (List.dropLast_append_getLast h).symm⟩
  have hl : s.lists.last = some c := by rw [← Lists.getLast?_forward, hk]; simp
  have e : s.append tag origin cap laps = ((s.giveCeiling c r).updLists fun l => { l with queue := l.queue ++ [r] }).replan := by
    unfold State.append; simp only [hl, hr, State.newRecord]
  obtain ⟨r1, r2, r3⟩ := State.replan_lists_link ((s.giveCeiling c r).updLists fun l => { l with queue := l.queue ++ [r] })
  obtain ⟨f1, f2, f3, f4⟩ := Lists.modifyLastRecord_spec s.lists (·.withCeiling (s.ceilingOf c r)) hk
  have gl : (s.giveCeiling c r).lists = s.lists.modifyLastRecord (·.withCeiling (s.ceilingOf c r)) := by
    simp [State.giveCeiling]
  rw [← hr, e]
  simp only [State.updLists, gl] at r1 r2 r3
  have x1 := congrArg Lists.expected f4
  refine ⟨⟨ks, c, hk, ?_, ?_, ?_, ?_, ?_, ?_, ?_⟩, ?_⟩
  all_goals try simp only [State.updLists, r1, r2, r3, gl]
  · simp only [Lists.forward, Lists.after, ← List.append_assoc] at f1 ⊢
    rw [f1]; simp [CourseRecord.withCeiling]
  · simp [f2]
  · exact f3
  · rw [f4]
  · simp
  · intro hx
    rw [State.giveCeiling, State.reportInfeasible_of_not (by exact hx)]; rfl
  · intro b move lap next hx hi hs h1 h2
    have hg : ∀ i j, gauge i j = (i - j) + (j - i) := by intro i j; unfold gauge; omega
    have hc : (decide ((s.ceilingOf c r).value = 0) && !c.infeasible) = true := by simp [hx, hi]
    simp only [State.giveCeiling, State.reportInfeasible, hc, if_true, hs, h1, h2]
    cases move <;>
      simp [moveGauge, hg, windowOf, overlapWidth, underlapWidth, limitCode, State.notifyTagged, State.updLink,
        State.updLists, State.profile, State.profileNumber]
  · exact x1

/-- An append in empty lists becomes current (05, R74, R83). -/
theorem State.append_becomesCurrent (s : State) (tag : Tag) (origin : Origin) (cap : Option Nat) (laps : List RawLap)
    (h : s.lists.forward = []) :
    let t := s.append tag origin cap laps
    s.BecomesCurrent t (s.newRecord tag origin cap laps) ∧ t.lists.expected = s.lists.expected := by
  have hl : s.lists.last = none := by rw [← Lists.getLast?_forward, h]; rfl
  have e : s.append tag origin cap laps =
      (s.updLists fun l => { l.clearMarks with current := some (s.newRecord tag origin cap laps) }).replan := by
    unfold State.append; simp only [hl]; rfl
  obtain ⟨r1, r2, r3⟩ := State.replan_lists_link
    (s.updLists fun l => { l.clearMarks with current := some (s.newRecord tag origin cap laps) })
  simp only [e, State.BecomesCurrent, r1, r2, r3]
  exact ⟨⟨rfl, rfl, rfl⟩, rfl⟩

end Sys2Proof.Machine
end

