-- ==== Sys2Proof/Laws/Motions.lean ====
section
/-! SUPPORT. What the end of every jog and of the referencing does, said once for each operation (08, R146, R147, R151). -/

namespace Sys2Proof.Machine

/-- The JOG_DONE of a bar whose jog ends with an outcome, when its channel has had a status (08, R151). -/
def State.jogEnd (s : State) (o : JogOutcome) (b : Nat) : Option Notice :=
  match (s.channel b).jog, (s.channel b).last with
  | some j, some d => some ⟨.jogDone j.target (heldSigned (d.actual - j.coord)) j.time, jogCode o, b, s.currentTag,
      s.tracker.angle⟩
  | _, _ => none

/-- One jog ends: its channel moves on, its JOG_DONE is offered, and all else stays but a free value used. -/
theorem State.endJog_spec {s : State} (hs : s.channels.length = 64) {b : Nat} (hb : barExists b = true) (o : JogOutcome)
    (f : Channel → Channel) :
    let t := s.endJog b o f
    t = { s with channels := t.channels, link := t.link, draws := t.draws } ∧ t.channels.length = 64 ∧
    t.channel b = (if (s.channel b).jog.isSome then f (s.channel b) else s.channel b) ∧
    (∀ x, barExists x = true → x ≠ b → t.channel x = s.channel x) ∧
    ((s.channel b).jog.isSome = true → (s.channel b).last.isSome = true →
      t.link = (s.jogEnd o b).toList.foldl Link.offer s.link) ∧
    ((s.channel b).jog.isSome = false → t.link = s.link) := by
  have hr : 1 ≤ b ∧ b ≤ 64 := by simpa [barExists] using hb
  have lt : ∀ u : State, u.channels = s.channels → b - 1 < u.channels.length := fun u hu => by rw [hu, hs]; omega
  have ne : ∀ (u : State) (x : Nat), barExists x = true → x ≠ b → (u.updChannel b f).channel x = u.channel x :=
    fun u x hx hn => State.channel_updChannel_ne (by simp [barExists] at hx; omega) f
  have len : ∀ u : State, u.channels = s.channels → (u.updChannel b f).channels.length = 64 := fun u hu => by
    simp [State.updChannel, hu, hs]
  unfold State.endJog State.notifyJogDone State.jogEnd
  cases hj : (s.channel b).jog with
  | none => simp [hs]
  | some j =>
    cases hl : (s.channel b).last with
    | none =>
      refine ⟨rfl, len _ rfl, ?_, fun x hx hn => ne _ x hx hn, ?_, ?_⟩
      · exact State.channel_updChannel (lt _ rfl) f
      · intro _ h; cases h
      · intro h; cases h
    | some d =>
      refine ⟨rfl, len _ rfl, State.channel_updChannel (lt _ rfl) f, fun x hx hn => ne _ x hx hn, fun _ _ => rfl, ?_⟩
      intro h; cases h

/-- The jogs of distinct bars end in turn. -/
theorem State.foldl_endJog (o : JogOutcome) (f : Channel → Channel) : ∀ (l : List Nat) (s : State),
    s.channels.length = 64 → (∀ b ∈ l, barExists b = true) → l.Nodup →
    let t := l.foldl (fun s b => s.endJog b o f) s
    t = { s with channels := t.channels, link := t.link, draws := t.draws } ∧ t.channels.length = 64 ∧
    (∀ b, barExists b = true →
      t.channel b = if b ∈ l ∧ (s.channel b).jog.isSome = true then f (s.channel b) else s.channel b) ∧
    ((∀ b ∈ l, (s.channel b).jog.isSome = true → (s.channel b).last.isSome = true) →
      t.link = (l.filterMap (s.jogEnd o)).foldl Link.offer s.link)
  | [], s, hs, _, _ => ⟨rfl, hs, fun b _ => by simp, fun _ => rfl⟩
  | b :: l, s, hs, hl, hn => by
    obtain ⟨h1, h2, h3, h4, h5, h6⟩ := State.endJog_spec hs (hl b (by simp)) o f
    obtain ⟨i1, i2, i3, i4⟩ := State.foldl_endJog o f l (s.endJog b o f) h2 (fun x hx => hl x (by simp [hx]))
      (List.nodup_cons.mp hn).2
    have hbl : b ∉ l := (List.nodup_cons.mp hn).1
    have other : ∀ x ∈ l, (s.endJog b o f).channel x = s.channel x := fun x hx =>
      h4 x (hl x (by simp [hx])) (fun h => hbl (h ▸ hx))
    refine ⟨?_, i2, ?_, ?_⟩
    · rw [List.foldl_cons]
      generalize l.foldl (fun s b => s.endJog b o f) (s.endJog b o f) = t at i1
      rw [i1, h1]
    · intro x hx
      rw [List.foldl_cons, i3 x hx]
      by_cases he : x = b
      · subst he; simp [hbl, h3]
      · rw [h4 x hx he]; simp [he]
    · intro hlast
      rw [List.foldl_cons, i4 (fun x hx => by rw [other x hx]; exact hlast x (by simp [hx]))]
      have tag : (s.endJog b o f).currentTag = s.currentTag := by rw [h1]; rfl
      have angle : (s.endJog b o f).tracker = s.tracker := by rw [h1]
      have same : l.filterMap ((s.endJog b o f).jogEnd o) = l.filterMap (s.jogEnd o) := List.filterMap_congr fun x hx => by
        simp only [State.jogEnd, other x hx, tag, angle]
      rw [same, List.filterMap_cons]
      cases hj : (s.channel b).jog.isSome with
      | false =>
        rw [h6 hj]
        have : s.jogEnd o b = none := by unfold State.jogEnd; rw [Option.isSome_eq_false_iff, Option.isNone_iff_eq_none] at hj; rw [hj]
        rw [this]
      | true =>
        rw [h5 hj (hlast b (by simp) hj)]
        cases s.jogEnd o b <;> rfl

/-- Every jog ends, in rising bar number (08, R151). -/
theorem State.endJogs_spec {s : State} (hs : s.channels.length = 64) (o : JogOutcome) (f : Channel → Channel) :
    let t := s.endJogs o f
    t = { s with channels := t.channels, link := t.link, draws := t.draws } ∧ t.channels.length = 64 ∧
    (∀ b, barExists b = true → t.channel b = if (s.channel b).jog.isSome then f (s.channel b) else s.channel b) ∧
    ((∀ b, barExists b = true → (s.channel b).jog.isSome = true → (s.channel b).last.isSome = true) →
      t.link = (allBars.filterMap (s.jogEnd o)).foldl Link.offer s.link) := by
  have mem : ∀ b, b ∈ allBars ↔ barExists b = true := by
    intro b; simp only [allBars, barExists, List.mem_range'_1, Bool.and_eq_true, decide_eq_true_eq]; omega
  obtain ⟨h1, h2, h3, h4⟩ := State.foldl_endJog o f allBars s hs (fun b hb => (mem b).mp hb) (by decide)
  refine ⟨h1, h2, fun b hb => ?_, fun h => h4 fun b hb => h b ((mem b).mp hb)⟩
  have := h3 b hb
  rw [State.endJogs, this]
  simp only [(mem b).mpr hb, true_and]

/-- Every remaining bar finishes with one outcome, and the referencing ends (08, R145 to R147). -/
theorem State.finishRemaining_spec {s : State} (hs : s.channels.length = 64) (o : RefOutcome) (f : Channel → Channel) :
    let t := s.finishRemaining o f
    t = { s with channels := t.channels, link := t.link, referencing := none } ∧ t.channels.length = 64 ∧
    (∀ b, barExists b = true → t.channel b = if s.remains b then f (s.channel b) else s.channel b) ∧
    t.link = (s.referencing.map fun r => (⟨.referenceDone r.found, r.outcomes ||| refFlag o, (barsOf r.selected).length,
      s.currentTag, s.tracker.angle⟩ : Notice)).toList.foldl Link.offer s.link := by
  unfold State.finishRemaining State.remains
  cases hr : s.referencing with
  | none => exact ⟨by simp [← hr], hs, fun b _ => by simp, rfl⟩
  | some r =>
    refine ⟨rfl, by simpa [State.endReferencing, State.mapChannels, State.notify, State.notifyTagged, State.updLink] using hs, ?_, rfl⟩
    intro b hb
    have h : 1 ≤ b ∧ b ≤ 64 := by simpa [barExists] using hb
    exact State.channel_mapChannels h.1 (by rw [hs]; omega) _

/-- A movement of the shaft ends every jog and the referencing (08, R146, R151). -/
theorem State.endMotions_moved {s : State} (hs : s.channels.length = 64) :
    s.MotionsMoved (s.endMotions .shaftMoved .shaftMoved (toIdle s.machine) fun c => toIdle s.machine (unreferenced c)) := by
  have bars : (List.range 64).map (· + 1) = allBars := by decide
  have first : ∀ u : State, u.channels = s.channels → u = { s with draws := u.draws } →
      s.MotionsMoved ((u.endJogs .shaftMoved (toIdle s.machine)).finishRemaining .shaftMoved
        fun c => toIdle s.machine (unreferenced c)) := by
    intro u hc hu
    obtain ⟨h1, h2, h3, h4⟩ := State.endJogs_spec (s := u) (by rw [hc, hs]) .shaftMoved (toIdle s.machine)
    generalize u.endJogs .shaftMoved (toIdle s.machine) = v at h1 h2 h3 h4
    obtain ⟨i1, i2, i3, i4⟩ := State.finishRemaining_spec (s := v) h2 .shaftMoved fun c => toIdle s.machine (unreferenced c)
    generalize v.finishRemaining .shaftMoved (fun c => toIdle s.machine (unreferenced c)) = t at i1 i2 i3 i4
    have ch : ∀ b, u.channel b = s.channel b := fun b => by simp only [State.channel, hc]
    have hv : v = { s with channels := v.channels, link := v.link, draws := v.draws } := by rw [h1, hu]
    have rm : ∀ b, v.remains b = s.remains b := fun b => by rw [hv]; rfl
    refine ⟨by rw [i1, hv], fun b hb => ?_, fun hl => .inl ?_⟩
    · rw [i3 b hb, h3 b hb, rm, ch]
      cases s.remains b <;> cases hj : (s.channel b).jog.isSome <;> simp [hj] <;> rfl
    · have hj := h4 fun b hb h => by rw [ch] at h ⊢; exact (hl b hb h).1
      rw [i4, List.foldl_append, bars, hj, hv, hu]
      rfl
  have second : ∀ u : State, u.channels = s.channels → u = { s with draws := u.draws } →
      s.MotionsMoved ((u.finishRemaining .shaftMoved fun c => toIdle s.machine (unreferenced c)).endJogs .shaftMoved
        (toIdle s.machine)) := by
    intro u hc hu
    obtain ⟨i1, i2, i3, i4⟩ := State.finishRemaining_spec (s := u) (by rw [hc, hs]) .shaftMoved
      fun c => toIdle s.machine (unreferenced c)
    generalize u.finishRemaining .shaftMoved (fun c => toIdle s.machine (unreferenced c)) = v at i1 i2 i3 i4
    obtain ⟨h1, h2, h3, h4⟩ := State.endJogs_spec (s := v) i2 .shaftMoved (toIdle s.machine)
    generalize v.endJogs .shaftMoved (toIdle s.machine) = t at h1 h2 h3 h4
    have ch : ∀ b, u.channel b = s.channel b := fun b => by simp only [State.channel, hc]
    have hv : v = { s with channels := v.channels, link := v.link, draws := v.draws, referencing := none } := by
      rw [i1, hu]
    have rm : ∀ b, u.remains b = s.remains b := fun b => by rw [hu]; rfl
    simp only [rm, ch] at i3
    refine ⟨by rw [h1, hv], fun b hb => ?_, fun hl => .inr ?_⟩
    · rw [h3 b hb, i3 b hb]
      cases s.remains b <;> cases hj : (s.channel b).jog.isSome <;> simp [hj] <;> rfl
    · have jog : ∀ b, barExists b = true → v.channel b = s.channel b ∨
          ((v.channel b).jog = none ∧ (s.channel b).jog = none) := by
        intro b hb
        rw [i3 b hb]
        cases hr : s.remains b with
        | false => exact .inl (by simp)
        | true =>
          refine .inr ⟨by simp [toIdle, settled], ?_⟩
          cases hj : (s.channel b).jog with
          | none => rfl
          | some j => have := (hl b hb (by simp [hj])).2; rw [hr] at this; cases this
      have hj := h4 fun b hb h => by
        rcases jog b hb with e | ⟨e, -⟩
        · rw [e] at h ⊢; exact (hl b hb h).1
        · rw [e] at h; cases h
      have same : allBars.filterMap (v.jogEnd .shaftMoved) = allBars.filterMap s.jogMoved := List.filterMap_congr fun b hb => by
        have hb : barExists b = true := by
          simp only [allBars, List.mem_range'_1] at hb
          simp only [barExists, Bool.and_eq_true, decide_eq_true_eq]; omega
        have tag : v.currentTag = s.currentTag := by rw [hv]; rfl
        have angle : v.tracker = s.tracker := by rw [hv]
        rcases jog b hb with e | ⟨e, e'⟩
        · simp only [State.jogEnd, State.jogMoved, e, tag, angle]; rfl
        · simp only [State.jogEnd, State.jogMoved, e, e']
      rw [hj, List.foldl_append, bars, same, i4, hu]
      rfl
  unfold State.endMotions
  split
  · split
    · exact first s.draw rfl rfl
    · exact second s.draw rfl rfl
  · exact first s rfl rfl

end Sys2Proof.Machine
end

