-- ==== Sys2Proof/Tests/Slice0.lean ====
section
/-! SUPPORT. Tests of the model: the smoke test of the well-formedness checks, worked examples of the manual, and for each
statement a state that meets its hypotheses, clause by clause. -/

namespace Sys2Proof.Tests

open Sys2Proof Sys2Proof.Machine

-- One test at a time: each evaluates in the kernel, and many at once would each hold a thread's stack.
set_option Elab.async false

/-! ### Well-formedness: an ill-formed command for each check -/

theorem test_ill_scope : (Instr.reset 0 256).wellFormed = false := by decide
theorem test_ill_machine_two_bytes : (Instr.setMachine 0 { Config.defaultMachine with pitch := 65536 }).wellFormed = false := by
  decide
theorem test_ill_machine_one_byte : (Instr.setMachine 0 { Config.defaultMachine with tolerance := 256 }).wellFormed = false := by
  decide
theorem test_ill_profile_number : (Instr.setProfile 0 256 Config.defaultProfile).wellFormed = false := by decide
theorem test_ill_profile_value : (Instr.setProfile 0 0 { Config.defaultProfile with travel := 256 }).wellFormed = false := by
  decide
theorem test_ill_assign_count : (Instr.assignBars 0 (List.replicate 256 ⟨1, 0⟩)).wellFormed = false := by decide +kernel
theorem test_ill_assign_bar : (Instr.assignBars 0 [⟨256, 0⟩]).wellFormed = false := by decide
theorem test_ill_define_courses : (Instr.defineBlock 0 0 65536 [1]).wellFormed = false := by decide
theorem test_ill_define_bar : (Instr.defineBlock 0 0 1 [256]).wellFormed = false := by decide
theorem test_ill_data_index : (Instr.blockData 0 0 4294967296 [⟨0, 0⟩]).wellFormed = false := by decide
theorem test_ill_data_cell : (Instr.blockData 0 0 0 [⟨0, 256⟩]).wellFormed = false := by decide
theorem test_ill_drop : (Instr.dropBlock 0 256).wellFormed = false := by decide
theorem test_ill_info : (Instr.blockInfo 0 256).wellFormed = false := by decide
theorem test_ill_read_start : (Instr.readBlockStart 0 0 65536).wellFormed = false := by decide
theorem test_ill_sequence_step : (Instr.writeSequence 0 [⟨256, 1⟩]).wellFormed = false := by decide
theorem test_ill_timed_now : (Instr.switchSequenceTimed 0 0).wellFormed = false := by decide
theorem test_ill_cursor : (Instr.setCursor 0 ⟨0, 0, 65536⟩).wellFormed = false := by decide
theorem test_ill_locate_target : (Instr.locate 0 ⟨0, 0, 0⟩ 1 [⟨1, 256⟩]).wellFormed = false := by decide
theorem test_ill_stream_bar : (Instr.openStream 0 0 [256]).wellFormed = false := by decide
theorem test_ill_course_count : (Instr.courses 0 256 []).wellFormed = false := by decide
theorem test_ill_extension : (Instr.reference 0 1 256).wellFormed = false := by decide
theorem test_ill_jog : (Instr.jog 0 256 0).wellFormed = false := by decide
theorem test_ill_target : (Instr.setRunState 0 256).wellFormed = false := by decide
theorem test_ill_known_kind : (Instr.unknownKind 0 0x54).wellFormed = false := by decide
theorem test_ill_status_length : (Instr.statusFrame .lineA [0x3C]).wellFormed = false := by decide
theorem test_ill_exchange_zero : (Instr.exchange 0).wellFormed = false := by decide
theorem test_ill_exchange_high : (Instr.exchange 65).wellFormed = false := by decide
theorem test_ill_drive_events : ([Instr.driveLost 65, .enableTimeout 0, .energizeTimeEnd 65, .holdDelayExpiry 0,
    .jogTargetReached 65, .settleTimeout 0, .zeroMoveComplete 65, .aligned 0].any Instr.wellFormed) = false := by decide
theorem test_well_formed : ([Instr.ident 7, .reset 0 1, .jog 1 64 63, .unknownKind 2 0xFF, .exchange 64,
    .setMachine 3 Config.defaultMachine].all Instr.wellFormed) = true := by decide

/-! ### Worked examples of the manual -/

/-- 03, R41: the nine bytes, and the two small blocks. -/
theorem test_crc : crc [0x31, 0x32, 0x33, 0x34, 0x35, 0x36, 0x37, 0x38, 0x39] = 0x29B1#16 ∧ digestOf [⟨0, 0⟩] = 0x1D0F#16 ∧
    digestOf [⟨255, 255⟩] = 0#16 := by decide +kernel

/-- 06, the table after R100: times and speeds at the default settings. -/
theorem test_move_times :
    ([1, 4, 16, 47].map fun d => moveTime Config.defaultProfile (d * 1058)) = [6506, 13012, 26022, 66302] ∧
    ([4, 16, 47].map (moveSpeed Config.defaultMachine Config.defaultProfile 600)) = [691, 345, 135] ∧
    ([1, 16, 47].map (moveSpeed Config.defaultMachine Config.defaultProfile 1400)) = [1200, 807, 316] := by decide

/-- 06, R98: the largest root, of a move of 315,000 um at 10 m/s2. -/
theorem test_largest_root : accelTime { Config.defaultProfile with accel := 10 } 315000 = 354966 := by decide

/-- 07, R129: the move law of 5,290 um over 1,400 counts. -/
theorem test_move_law : [350, 700, 1050].map (fun u => lawDistance 5290 u 1400) = [661, 2645, 4629] := by decide

/-- 01, section 1.10: the course speeds of 50,000, 41,000 and 900 us. -/
theorem test_course_speeds : [50000, 41000, 900].map measuredSpeed = [1200, 1463, 65535] := by decide

/-- 02, R21: the defaults are good; an overlap window of 99 counts is bad at its end. -/
theorem test_machine_record : badMachineField Config.defaultMachine = none ∧
    badMachineField { Config.defaultMachine with ovEnd := 999 } = some 4 := by decide

/-! ### States for the witnesses -/

/-- The part running, right after its start-up. -/
def base : State := { State.reset with power := .running }

/-- The part running in a run state, its shaft LOCKED and STOPPED at an angle. -/
def runsIn (r : RunState) (angle : Nat := 0) : State :=
  (base.updRun fun x => { x with state := r }).updTracker fun t =>
    { t with sync := .locked, stopped := true, angle := angle, side := some .lower }

/-- Bar 1 assigned to profile 0, with its channel. -/
def withBar (s : State) (c : Channel) : State := { s with assign := s.assign.set 0 (some 0), channels := s.channels.set 0 c }

/-- A channel in a state, its drive having answered its exchange. -/
def chan (st : ChannelState) : Channel :=
  { Channel.initial with
    state := st, view := .ready, last := some ⟨true, false, 0, 0⟩, taken := true, exchanging := true, readySeen := true }

/-- A referenced channel. -/
def refd (st : ChannelState) : Channel := { chan st with referenced := true, refPoint := some 0 }

/-- A record of bar 1. -/
def course (tag : Tag) (front back : Nat) : CourseRecord := ⟨tag, .stream, none, false, [⟨1, front, back⟩], none, false⟩

/-- The same record with a ceiling. -/
def capped (tag : Tag) (value : Nat) : CourseRecord := { course tag 0 0 with ceiling := some ⟨value, .vmax⟩ }

/-- Lists with a current record and what follows it in the queue. -/
def withLists (s : State) (c : CourseRecord) (q : List CourseRecord) : State :=
  s.updLists fun l => { l with current := some c, queue := q }

/-- Block 127 in a state, with one course for bar 1 and its cell. -/
def withBlock (s : State) (st : BlockState) (cells : List Cell) : State :=
  s.updBlock 127 fun b => { b with state := st, courses := 1, bars := [1], cells := cells }

/-- The hypotheses of every request: nothing due, and the port free. -/
def ready (s : State) : Bool :=
  s.power == .running && s.link.resetOwed == none && s.dueStep == none && s.link.tx == none && s.link.buffer.isEmpty

theorem quiet_of {s : State} (h : ready s = true) : s.Quiet ∧ s.PortFree := by
  simp only [ready, Bool.and_eq_true, beq_iff_eq, List.isEmpty_iff] at h
  exact ⟨⟨h.1.1.1.1, h.1.1.1.2, h.1.1.2⟩, h.1.2, h.2⟩

theorem meets {s : State} {P : Prop} (h : ready s = true) (r : P) : s.Quiet ∧ s.PortFree ∧ P :=
  ⟨(quiet_of h).1, (quiet_of h).2, r⟩

/-! ### Single steps from the manual's worked sequences -/

/-- The command answers a next state with a property. -/
def gives (c : Instr) (s : State) (p : State → Bool) : Bool :=
  match exec c s with
  | .next t => p t
  | _ => false

/-- 01, section 1.10, second revolution: the index at 3,998 corrects the angle forward through the wrap, a forward crossing. -/
theorem test_correction_through_the_wrap : gives (.indexArrival 5) (runsIn .hold 3998) (fun t =>
    t.tracker.angle == 0 && t.tracker.courseStart == some 5 && t.permitLine.due && t.link.notices.isEmpty) = true := by
  decide +kernel

/-- 01, section 1.10, fourth revolution: the index at 3 loses the lock, and in RUN the machine halts on SYNC_LOST. -/
theorem test_index_mismatch_halts : gives (.indexArrival 0) (runsIn .run 3) (fun t =>
    t.tracker.sync == .checking && t.tracker.angle == 0 && t.run.state == .halt && t.link.notices.length == 2) = true := by
  decide +kernel

/-- 09, section 9.11: the drive's fault code 5 at angle 2,410 halts the machine with DRIVE_FAULT, detail 5. -/
theorem test_drive_fault_halts : gives (.statusFrame .lineA (statusBytes 1 ⟨true, false, 5, 0⟩))
    (withBar (runsIn .run 2410) { refd .following with taken := false }) (fun t =>
      t.run.halt == some ⟨.driveFault, 5, 1, 0, 2410, none⟩ && t.stopActive && (t.channel 1).state == .faulted) = true := by
  decide +kernel

/-- 09, section 9.11: RUN asked for in HALT is registered as bad and waits toward HOLD. -/
theorem test_run_in_halt_is_bad : gives (.setRunState 9 2) ((runsIn .halt).updTracker fun t => { t with stopped := false })
    (fun t => t.run.badRequest && t.run.waiting && t.run.requested == some .hold) = true := by decide +kernel

/-- 08, section 8.5, exchange 61: LEAVE ends at 50,900 inactive, and SEARCH starts with its limit at -9,090. -/
theorem test_leave_ends : gives (.statusFrame .lineA (statusBytes 1 ⟨true, false, 0, 50900⟩))
    (withBar (runsIn .hold) { chan .referencing with
      taken := false, phase := some .leave, setpoint := 50910, sentNew := 50910, sentOld := 50900, limit := 52416 }) (fun t =>
        (t.channel 1).phase == some .search && (t.channel 1).limit == -9090 && (t.channel 1).setpoint == 50910) = true := by
  decide +kernel

/-- 08, section 8.5, exchange 64: the switch at 50,890 is the reference point, and ZERO goes to 52,890 in 8,968 us. -/
theorem test_search_finds : gives (.statusFrame .lineA (statusBytes 1 ⟨true, true, 0, 50890⟩))
    (withBar (runsIn .hold) { chan .referencing with
      taken := false, phase := some .search, setpoint := 50880, sentNew := 50880, sentOld := 50890, limit := -9090 }) (fun t =>
        (t.channel 1).refPoint == some 50890 && !(t.channel 1).referenced &&
          (t.channel 1).move == some ⟨50880, 52890, 8968, 0⟩) = true := by decide +kernel

/-- 10, section 10.7: an IDENT request is ten bytes, and its reply of 28 bytes lasts 280 us at 1 Mbit/s. -/
theorem test_ident_frames : (linkFrame 1 0x01 []).length = 10 ∧
    gives (.ident 1) base (fun t => t.link.txUntil == 280) = true := by decide +kernel

/-! ### Witnesses: the queue, the power and the resets, the port -/

theorem test_witness_StepTakesTheFrontCommand : base.pending = [] := rfl

theorem test_witness_PowerOnAndPinResetHoldThePart :
    base.isHeld = false ∧ State.reset.power = .held true ∧ { State.reset with power := .held false }.power = .held false :=
  ⟨rfl, rfl, rfl⟩

theorem test_witness_ReleaseStartsThePart :
    State.reset.power = .held true ∧ { State.reset with power := .startUp 20000 }.power = .startUp 20000 := ⟨rfl, rfl⟩

theorem test_witness_ResetIsAnsweredBeforeItActs : base.Quiet ∧ base.PortFree ∧ 1 < 2 ∧ 1 < 255 :=
  meets (by decide +kernel) (by decide +kernel)

theorem test_witness_TheScopesOfResetTakeEffect :
    ∀ scope ∈ [Scope.motion, .full], ∀ until_ ∈ [0, 60], ∀ waiting ∈ [[], [(⟨0, .setRunState 1⟩ : Waiting)]],
      let s := (base.updLink fun l => { l with resetOwed := some scope, buffer := waiting }).updPermitLine fun p =>
        { p with busyUntil := until_ }
      s.power = .running ∧ s.link.resetOwed = some scope ∧ s.link.tx = none ∧ s.dueStep = none ∧ s.channels.length = 64 ∧
        (s.permitLine.busyUntil ≤ s.now ↔ until_ = 0) := by decide +kernel

theorem test_witness_QueriesAnswerAndChangeNothing : base.Quiet ∧ base.PortFree := quiet_of (by decide +kernel)

theorem test_witness_ReplyHeaderShowsRoomAndFlags :
    base.lists.queue.length ≤ 32 ∧ (withLists base (course 0 0 0) (List.replicate 32 (course 0 0 0))).lists.queue.length ≤ 32 := by
  decide

theorem test_witness_FetchNoticeTakesTheOldest :
    (let s := base.notify (.referenceDone 0) 0 0; s.Quiet ∧ s.PortFree ∧ ∃ n rest, s.link.notices = n :: rest) ∧
    (base.Quiet ∧ base.PortFree ∧ base.link.notices = []) :=
  ⟨meets (by decide +kernel) ⟨_, _, rfl⟩, meets (by decide +kernel) rfl⟩

theorem test_witness_TheBufferHoldsTwoRequests :
    (let s := base.updLink fun l => { l with buffer := [⟨0, .ident⟩, ⟨1, .ident⟩] }
     s.power = .running ∧ 2 ≤ s.link.buffer.length) ∧
    (let s := base.updLink fun l => { l with tx := some ⟨0, 0x81, []⟩, buffer := [⟨0, .ident⟩] }
     s.Quiet ∧ s.link.tx = some ⟨0, 0x81, []⟩) :=
  ⟨by decide +kernel, ⟨rfl, rfl, by decide +kernel⟩, rfl⟩

theorem test_witness_RequestsWaitTheirTurn :
    (requestOf (.status 1) = some ⟨1, .status⟩ ∧ requestOf (.unknownKind 2 255) = some ⟨2, .unknown 255⟩) ∧
    (∀ owed ∈ [none, some Scope.motion, some Scope.full],
      let s := base.updLink fun l => { l with tx := some ⟨0, 0x81, []⟩, buffer := [⟨0, .ident⟩], resetOwed := owed }
      let full := s.updLink fun l => { l with buffer := [⟨0, .ident⟩, ⟨1, .ident⟩] }
      s.power = .running ∧ s.dueStep = none ∧ s.link.tx = some ⟨0, 0x81, []⟩ ∧ s.link.buffer.length < 2 ∧
        s.link.resetOwed = owed ∧ full.dueStep = none ∧ 2 ≤ full.link.buffer.length) ∧
    (ready base = true ∧ base.link.tx = none) ∧
    (let s := { State.reset with power := .startUp 20000 }
     s.power = .startUp 20000 ∧ s.dueStep = none ∧ s.link.resetOwed = none) := by decide +kernel

theorem test_witness_BytesOfAFrameAreItsRequest :
    base.power = .running ∧ base.link.rx.phase = .hunt ∧ 1 < 256 ∧ ([] : List Byte).length ≤ 541 ∧
      (List.replicate 10 1000).length = ([] : List Byte).length + 10 ∧ (∀ dt ∈ List.replicate 10 1000, dt ≤ 1000) ∧
      0 < base.link.rate := by
  decide

theorem test_witness_ReceiverTakesBytesByPhase :
    (base.Quiet ∧ base.link.rx.phase = .hunt) ∧
    (let s := base.updLink fun l => { l with rx := ⟨.length, [0], 0⟩ }
     s.Quiet ∧ s.link.rx.phase = .length ∧ s.link.rx.bytes = [0] ∧ (s.elapse 1010).gapTooLong = false ∧
       (2 ≤ 256 * (0#8).toNat + (2#8).toNat ∧ 256 * (2#8).toNat + (0x22#8).toNat ≤ 546) ∧
       s.link.rx.phase ≠ .hunt ∧
       1000 * s.link.rate + 10 < s.link.rate * ((s.elapse 1011).now - s.link.rx.lastAt)) :=
  ⟨⟨(quiet_of (by decide +kernel)).1, rfl⟩, ⟨rfl, rfl, by decide +kernel⟩, by decide +kernel⟩

/-- The receiver of a part inside a frame that gives its length as `n`, with what came after the length bytes. -/
def receiving (phase : RxPhase) (n : Byte) (rest : List Byte) : State :=
  base.updLink fun l => { l with rx := ⟨phase, 0 :: n :: rest, 0⟩ }

theorem test_witness_FramesAreJudgedAtTheirEnd :
    (let s := base.updLink fun l => { l with rx := ⟨.length, [], 0⟩ }
     ready s = true ∧ s.link.rate * ((s.elapse 1010).now - s.link.rx.lastAt) ≤ 1000 * s.link.rate + 10) ∧
    (∀ x ∈ [(RxPhase.body, [0]), (.body, [0, 0, 0]), (.body, [0, 0, 0, 1]), (.check, [0, 0, 0, 1, 1])],
      let s := receiving x.1 5 x.2
      ready s = true ∧ s.link.rx.phase = x.1 ∧ s.link.rx.bytes = 0 :: 5 :: x.2) ∧
    (let body := frameBody 1 0x01 []
     let whole := receiving .check 5 (body.drop 2 ++ (crcBytes body).take 1)
     ready whole = true ∧ (whole.link.rx.bytes ++ (crcBytes body).drop 1).length = 4 + 5 ∧
       (whole.link.rx.bytes ++ (crcBytes body).drop 1).drop 7 = crcBytes body) ∧
    (let short : List Byte := [0, 4, 0, 0, 0, 1]
     (short ++ crcBytes short).length = 4 + 4 ∧ (short ++ crcBytes short).drop 6 = crcBytes short) := by decide +kernel

/-- 10, R177: the same frame with its last CRC byte changed is dropped without a reply; whole, it is answered. -/
theorem test_frame_end_is_judged :
    let body := frameBody 1 0x01 []
    let s := receiving .check 5 (body.drop 2 ++ (crcBytes body).take 1)
    let v := (crcBytes body).getD 1 0
    gives (.byteReceived v true 10) s (fun t => t.link.tx.isSome && t.link.rx.phase == .hunt) = true ∧
      gives (.byteReceived (v + 1) true 10) s (fun t => t.link.tx.isNone && t.link.buffer.isEmpty && t.link.rx.phase == .hunt) =
        true := by decide +kernel

/-! ### Witnesses: settings -/

theorem test_witness_AcceptedSettingsAreInForce :
    (base.Quiet ∧ base.PortFree ∧ base.run.state = .standby ∧ base.run.changing = false ∧
      badMachineField Config.defaultMachine = none ∧ Config.defaultMachine.indexAngle = base.machine.indexAngle ∧
      badProfileField 7 Config.defaultProfile = none) ∧
    (let s := { runsIn .standby 2000 with now := 50000 }
     let m := { Config.defaultMachine with ulStart := 2000, stopDetect := 50 }
     s.Quiet ∧ s.PortFree ∧ s.run.state = .standby ∧ s.run.changing = false ∧ badMachineField m = none ∧
       m.indexAngle = s.machine.indexAngle ∧ m.ulStart ≠ s.machine.ulStart ∧ s.tracker.sync = .locked ∧
       m.stopDetect ≠ s.machine.stopDetect ∧ s.tracker.countedAt + 1000 * m.stopDetect ≤ s.now) :=
  ⟨meets (by decide +kernel) (by decide +kernel), meets (by decide +kernel) (by decide +kernel)⟩

theorem test_witness_SettingsRefusalsChangeNothing :
    (let s := runsIn .hold; s.Quiet ∧ s.PortFree ∧ s.run.state ≠ .standby) ∧
    (let s := (withBar base (chan .energizing)).updRun fun r => { r with changing := true, requested := some .hold }
     s.Quiet ∧ s.PortFree ∧ s.run.state = .standby ∧ s.run.changing = true) ∧
    (base.Quiet ∧ base.PortFree ∧ base.run.state = .standby ∧ base.run.changing = false ∧
      badMachineField { Config.defaultMachine with pitch := 199 } = some 0 ∧
      badMachineField { Config.defaultMachine with holdDelay := 99 } = some 16 ∧
      badProfileField 8 Config.defaultProfile = some 0) :=
  ⟨meets (by decide +kernel) (by decide +kernel),
    meets (by decide +kernel) (by decide +kernel), meets (by decide +kernel) (by decide +kernel)⟩

theorem test_witness_ProfileIsJudgedInOrder :
    badProfileField 8 { Config.defaultProfile with accel := 9 } = some 0 ∧
    badProfileField 7 { Config.defaultProfile with accel := 501, speed := 99 } = some 1 ∧
    badProfileField 0 { Config.defaultProfile with zeroOffset := 50001 } = some 6 ∧
    badProfileField 7 ⟨10, 100, 1, 4, 1000, 0⟩ = none ∧ badProfileField 0 ⟨500, 5000, 63, 200, 400000, 50000⟩ = none := by decide

theorem test_witness_AssignBarsIsRefused :
    (ready base = true ∧ base.run.state = .standby ∧ base.run.changing = false) ∧
    (([] : List AssignEntry).length = 0 ∧ 64 < (List.replicate 65 (⟨1, 0⟩ : AssignEntry)).length) ∧
    (let es : List AssignEntry := [⟨64, 7⟩, ⟨1, 255⟩, ⟨64, 0⟩, ⟨65, 8⟩]
     1 ≤ es.length ∧ es.length ≤ 64 ∧ badAssignEntry es = some 2 ∧ badAssignEntry [⟨65, 0⟩] = some 0 ∧
       badAssignEntry [⟨1, 7⟩, ⟨2, 8⟩] = some 1) := by decide +kernel

theorem test_witness_NewIndexAngleEndsTheLock :
    ∀ y ∈ [SyncState.locked, .checking, .noSignal, .seekingIndex],
      let s := { (withBar base (chan .off)).updTracker (fun t => { t with sync := y }) with now := 50000 }
      let m := { Config.defaultMachine with indexAngle := 3999, stopDetect := 50 }
      ready s = true ∧ s.run.state = .standby ∧ s.run.changing = false ∧ badMachineField m = none ∧
        m.indexAngle ≠ s.machine.indexAngle ∧ s.tracker.sync = y ∧
        s.tracker.countedAt + 1000 * m.stopDetect ≤ s.now := by decide +kernel

theorem test_witness_AssignBarsMovesTheChannels :
    let s := withBar base (chan .off)
    let es : List AssignEntry := [⟨1, 255⟩, ⟨64, 7⟩]
    s.Quiet ∧ s.PortFree ∧ s.run.state = .standby ∧ s.run.changing = false ∧ 1 ≤ es.length ∧ es.length ≤ 64 ∧
      badAssignEntry es = none ∧ s.Sized :=
  meets (by decide +kernel) (by decide +kernel)

/-! ### Witnesses: the pattern store -/

theorem test_witness_DefineBlockFollowsItsTable : base.Quiet ∧ base.PortFree := quiet_of (by decide +kernel)

theorem test_witness_BlockDataStoresTheCells :
    let s := withBlock base .loading []
    s.Quiet ∧ s.PortFree ∧ 127 ≤ 127 ∧ [(⟨63, 0⟩ : Cell)].length ≤ 96 ∧ (s.block 127).state = .loading ∧
      (s.block 127).cells.length + [(⟨63, 0⟩ : Cell)].length ≤ cellCount (s.block 127) ∧
      (∀ c ∈ [(⟨63, 0⟩ : Cell)], (c.front ≤ 63 ∧ c.back ≤ 63) ∨ (c.front = 255 ∧ c.back = 255)) ∧
      s.store.blocks.length = 128 :=
  meets (by decide +kernel) (by decide +kernel)

theorem test_witness_BlockDataIsRefused :
    (ready base = true ∧ (base.block 127).state = .empty ∧ 127 < 128 ∧ 96 < (List.replicate 97 (⟨0, 0⟩ : Cell)).length) ∧
    (∀ x ∈ [(BlockState.checking, [(⟨0, 0⟩ : Cell)]), (.ready, [⟨0, 0⟩]), (.loading, [])],
      let s := withBlock base x.1 x.2
      ready s = true ∧ (s.block 127).state = x.1) ∧
    (let b := (withBlock base .loading []).block 127
     1 ≠ b.cells.length ∧ b.courses * b.bars.length < 0 + [(⟨0, 0⟩ : Cell), ⟨0, 0⟩].length ∧
       0 + [(⟨64, 0⟩ : Cell)].length ≤ b.courses * b.bars.length ∧ ¬((64 ≤ 63 ∧ 0 ≤ 63) ∨ (64 = 255 ∧ 0 = 255))) := by decide +kernel

theorem test_witness_RefusedStoreRequestsChangeNothing :
    (base.handle (.dropBlock 127)).2.result ≠ .ok ∧ (base.handle (.defineBlock 128 1 [1])).2.result ≠ .ok ∧
      (base.handle (.blockData 0 0 [])).2.result ≠ .ok ∧ (base.handle (.readBlockStart 0 0)).2.result ≠ .ok ∧
      (base.handle (.blockInfo 128)).2.result ≠ .ok ∧ (base.handle .readBlockNext).2.result ≠ .ok := by decide +kernel

theorem test_witness_DropBlockFreesTheEntry :
    (base.Quiet ∧ base.PortFree ∧ 127 < 128 ∧ (base.block 127).state = .empty) ∧
    (let s := (withBlock base .ready [⟨0, 0⟩]).pin [⟨127, 1⟩]
     s.Quiet ∧ s.PortFree ∧ (s.block 127).state ≠ .empty ∧ 0 < (s.block 127).pins) ∧
    (let s := withBlock base .ready [⟨0, 0⟩]
     s.Quiet ∧ s.PortFree ∧ (s.block 127).state ≠ .empty ∧ (s.block 127).pins = 0) :=
  ⟨meets (by decide +kernel) (by decide +kernel),
    meets (by decide +kernel) (by decide +kernel), meets (by decide +kernel) (by decide +kernel)⟩

theorem test_witness_CheckCompleteMakesTheBlockReady :
    (base.Quiet ∧ base.store.checkQueue = []) ∧
    (let s := (withBlock base .loading []).storeCells 127 [⟨0, 0⟩]
     s.1.Quiet ∧ s.1.store.checkQueue = 127 :: []) :=
  ⟨⟨(quiet_of (by decide +kernel)).1, rfl⟩, (quiet_of (by decide +kernel)).1, by decide +kernel⟩

theorem test_witness_ReadbackReturnsTheCells :
    let s := withBlock base .ready [⟨0, 0⟩]
    let r := s.updStore fun st => { st with readCursor := some ⟨127, 0⟩ }
    (s.Quiet ∧ s.PortFree ∧ (s.block 127).state = .ready ∧ s.store.readCursor = none) ∧
    (r.Quiet ∧ r.PortFree ∧ r.store.readCursor = some ⟨127, 0⟩ ∧ (r.block 127).cells.length = cellCount (r.block 127)) :=
  ⟨meets (by decide +kernel) (by decide +kernel), meets (by decide +kernel) (by decide +kernel)⟩

theorem test_witness_BlockInfoHoldsItsLayout :
    (ready base = true ∧ (base.block 127).state = .empty ∧ 127 < 128) ∧
    (let s := withBlock base .loading []
     ready s = true ∧ (s.block 127).state = .loading) ∧
    (let s := ((withBlock base .checking [⟨0, 0⟩]).updBlock 5 fun b => { b with state := .checking }).updStore fun st =>
        { st with checkQueue := [5, 127] }
     ready s = true ∧ (s.block 127).state = .checking ∧ s.store.checkQueue[1]? = some 127 ∧
       127 ∉ s.store.checkQueue.take 1) := by decide +kernel

/-! ### Witnesses: the player -/

/-- The part in HOLD with an ACTIVE table of one course of block 127 for bar 1, and the same table PENDING. -/
def playing : State :=
  (withBar (withBlock (runsIn .hold) .ready [⟨63, 0⟩]) (chan .idle)).updPlayer fun p =>
    { p with active := some [⟨127, 1⟩], pending := some [⟨127, 255⟩] }

/-- The same with a table of two steps whose course fits the bar's travel. -/
def fitting : State :=
  (withBar (withBlock (runsIn .hold) .ready [⟨47, 0⟩]) (chan .idle)).updPlayer fun p =>
    { p with active := some [⟨127, 2⟩, ⟨127, 1⟩], pending := some [⟨127, 255⟩] }

theorem test_witness_WriteSequenceReplacesPending :
    playing.Quiet ∧ playing.PortFree ∧ 1 ≤ [(⟨127, 255⟩ : SeqStep)].length ∧ (List.replicate 64 (⟨127, 1⟩ : SeqStep)).length ≤ 64 ∧
      (∀ t ∈ List.replicate 64 (⟨127, 1⟩ : SeqStep), t.block ≤ 127 ∧ 1 ≤ t.reps ∧ (playing.block t.block).state = .ready) ∧
      playing.store.blocks.length = 128 :=
  meets (by decide +kernel) (by decide +kernel)

theorem test_witness_WriteSequenceIsRefused :
    (ready playing = true ∧ 64 < (List.replicate 65 (⟨127, 1⟩ : SeqStep)).length) ∧
    (let steps : List SeqStep := [⟨127, 1⟩, ⟨128, 0⟩]
     steps.length ≤ 64 ∧ badStepField 1 steps = some 3 ∧ badStepField 1 [⟨127, 1⟩, ⟨127, 0⟩] = some 4) ∧
    ((playing.block 127).state = .ready ∧ (playing.block 126).state ≠ .ready ∧
      badStepField 1 [⟨127, 1⟩, ⟨126, 1⟩] = none) := by decide +kernel

theorem test_witness_SwitchesTakePendingInTheirTime :
    (playing.Quiet ∧ playing.PortFree ∧ (playing.run.state = .standby ∨ playing.run.state = .hold) ∧
      playing.run.changing = false ∧ playing.run.waiting = false ∧ playing.player.search = none ∧
      playing.player.pending = some [⟨127, 255⟩] ∧ SwitchMode.atStepEnd ≠ .now ∧ SwitchMode.atPassEnd ≠ .now ∧
      playing.player.pending.isSome ∧ playing.player.active.isSome) ∧
    (base.Quiet ∧ base.PortFree ∧ base.player.pending = none) :=
  ⟨meets (by decide +kernel) (by decide +kernel), meets (by decide +kernel) (by decide +kernel)⟩

theorem test_witness_SwitchIsRefusedOrTakenAtOnce :
    (ready base = true ∧ base.player.pending = none ∧ 2 < 3) ∧
    (∀ r ∈ [RunState.run, .halt], let s := playing.updRun fun x => { x with state := r }
      ready s = true ∧ s.player.pending.isSome = true ∧ s.run.state ≠ .standby ∧ s.run.state ≠ .hold) ∧
    (let s := (withBar playing (chan .energizing)).updRun fun r => { r with changing := true, requested := some .run }
     ready s = true ∧ s.player.pending.isSome = true ∧ s.run.state = .hold ∧ s.run.changing = true) ∧
    (let s := playing.updPlayer fun p => { p with search := some ⟨⟨0, 0, 0⟩, 1, [⟨1, 63⟩], 0⟩ }
     ready s = true ∧ s.player.pending.isSome = true ∧ s.run.state = .hold ∧ s.player.search.isSome = true) ∧
    (∀ r ∈ [RunState.standby, .hold, .run, .halt],
      let s := (playing.updRun fun x => { x with state := r }).updPlayer fun p => { p with active := none }
      ready s = true ∧ s.player.pending = some [⟨127, 255⟩] ∧ s.player.active = none) := by decide +kernel

theorem test_witness_ChoosingASourceStartsAfresh :
    (playing.Quiet ∧ playing.PortFree ∧ (playing.run.state = .standby ∨ playing.run.state = .hold) ∧
      playing.run.changing = false ∧ playing.run.waiting = false ∧ playing.PermitSound ∧ playing.player.search = none ∧
      playing.player.active = some [⟨127, 1⟩] ∧ [(⟨127, 1⟩ : SeqStep)][0]? = some ⟨127, 1⟩ ∧ 0 < 1 ∧
      0 < (playing.block 127).courses) ∧
    (1 ≤ [1].length ∧ [1].length ≤ 64 ∧ (∀ b ∈ [1], 1 ≤ b ∧ b ≤ 64 ∧ playing.assigned b = true) ∧ [1].Nodup) :=
  ⟨meets (by decide +kernel) (by decide +kernel), by decide +kernel⟩

theorem test_witness_SetCursorAndLocateAreRefused :
    (∀ r ∈ [RunState.run, .halt], ready (runsIn r) = true ∧ (runsIn r).run.state ≠ .standby ∧ (runsIn r).run.state ≠ .hold) ∧
    (ready (runsIn .hold) = true ∧ (runsIn .hold).run.changing = false ∧ (runsIn .hold).player.search = none ∧
      (runsIn .hold).player.active = none) ∧
    (ready playing = true ∧ playing.player.active = some [⟨127, 1⟩] ∧ [(⟨127, 1⟩ : SeqStep)].length ≤ 1 ∧
      [(⟨127, 1⟩ : SeqStep)][0]? = some ⟨127, 1⟩ ∧ 1 ≤ 1 ∧ (playing.block 127).courses ≤ 1 ∧ 0 < (playing.block 127).courses) ∧
    (8 < 9 ∧ 16 < (List.replicate 17 (⟨1, 255⟩ : LocateTarget)).length) ∧
    (badTargetField 5 [] [⟨1, 63⟩, ⟨1, 64⟩] = some 7 ∧ badTargetField 5 [] [⟨64, 255⟩, ⟨1, 254⟩] = some 8) := by decide +kernel

theorem test_witness_OpenStreamIsRefused :
    (let s := (withBar playing (chan .energizing)).updRun fun r => { r with changing := true, requested := some .run }
     ready s = true ∧ s.run.state = .hold ∧ s.run.changing = true) ∧
    (ready playing = true ∧ playing.run.state = .hold ∧ playing.run.changing = false ∧ ([] : List Nat).length < 1 ∧
      64 < (List.replicate 65 1).length ∧ playing.assigned 1 = true ∧ playing.assigned 2 = false ∧ 1 ∈ [1, 1].take 1) := by
  decide +kernel

theorem test_witness_LocateSearchesInItsTime :
    (playing.Quiet ∧ playing.PortFree ∧ (playing.run.state = .standby ∨ playing.run.state = .hold) ∧
      playing.player.search = none ∧ playing.player.active = some [⟨127, 1⟩] ∧
      [(⟨127, 1⟩ : SeqStep)][0]? = some ⟨127, 1⟩ ∧ 0 < (playing.block 127).courses ∧
      (∀ t ∈ [(⟨64, 255⟩ : LocateTarget), ⟨1, 63⟩], 1 ≤ t.bar ∧ t.bar ≤ 64 ∧ (t.front ≤ 63 ∨ t.front = 255)) ∧
      ([(⟨64, 255⟩ : LocateTarget), ⟨1, 63⟩].map LocateTarget.bar).Nodup) ∧
    (let s := playing.updPlayer fun p => { p with search := some ⟨⟨0, 0, 0⟩, 1, [⟨1, 63⟩], 0⟩ }
     s.Quiet ∧ s.PortFree ∧ s.player.search = some ⟨⟨0, 0, 0⟩, 1, [⟨1, 63⟩], 0⟩) ∧
    (let s := playing.updPlayer fun p => { p with active := some [⟨127, 3⟩] }
     let order : List (FeedCursor × Nat) := [(⟨127, 3⟩ : SeqStep)].zipIdx.flatMap fun x =>
       (List.range x.1.reps).flatMap fun rep =>
         (List.range (s.block x.1.block).courses).map fun course => (⟨x.2, rep, course⟩, x.1.block)
     s.player.active = some [⟨127, 3⟩] ∧ order[0]? = some (⟨0, 0, 0⟩, 127) ∧ order[0 + 1 * 2]? = some (⟨0, 2, 0⟩, 127) ∧
       order[0 + 2 * 2]? = none ∧ cellOf (s.block 127) 0 1 = some ⟨63, 0⟩ ∧ (63 = 63 ∧ ¬(62 = 255 ∨ 63 = 62))) :=
  ⟨meets (by decide +kernel) (by decide +kernel), meets (by decide +kernel) (by decide +kernel), by decide +kernel⟩

theorem test_witness_FeedingGoesOnWhileItMay :
    (playing.ListsSound ∧ (∀ table, playing.player.active = some table → playing.player.cursor.step < table.length) ∧
      (∀ table, playing.player.pending = some table → table ≠ [])) ∧
    (base.run.state = .standby ∧ playing.run.state ≠ .standby ∧
      (let s := withLists playing (course 0 0 0) (List.replicate 32 (course 0 0 0))
       s.lists.current.isSome = true ∧ 32 ≤ s.lists.queue.length)) := by
  refine ⟨⟨by decide +kernel, ?_, ?_⟩, by decide +kernel⟩
  · intro table h; obtain rfl : [(⟨127, 1⟩ : SeqStep)] = table := Option.some.inj h; decide
  · intro table h; obtain rfl : [(⟨127, 255⟩ : SeqStep)] = table := Option.some.inj h; decide

theorem test_witness_FedCourseBecomesARecord :
    (∀ s ∈ [playing, withLists playing (course 0 0 0) []],
      s.player.active = some [⟨127, 1⟩] ∧ [(⟨127, 1⟩ : SeqStep)][s.player.cursor.step]? = some ⟨127, 1⟩ ∧
        s.assignedBars = [1] ∧ cellOf (s.block 127) s.player.cursor.course 1 = some ⟨63, 0⟩ ∧ (s.profile 1).travel < 63) ∧
    (∀ s ∈ [fitting, withLists fitting (course 0 0 0) []],
      s.player.active = some [⟨127, 2⟩, ⟨127, 1⟩] ∧ s.assignedBars = [1] ∧
        cellOf (s.block 127) s.player.cursor.course 1 = some ⟨47, 0⟩ ∧ 47 ≤ (s.profile 1).travel ∧ s.player.recorded = none ∧
        (s.lists.forward = [] ∨ s.lists.forward = [course 0 0 0])) ∧
    (∀ mode ∈ [SwitchMode.atStepEnd, .atPassEnd], ∀ c ∈ [(⟨0, 0, 0⟩ : FeedCursor), ⟨0, 1, 0⟩, ⟨1, 0, 0⟩],
      let s := fitting.updPlayer fun p => { p with recorded := some mode, cursor := c }
      s.player.recorded = some mode ∧ s.player.pending = some [⟨127, 255⟩] ∧ s.store.blocks.length = 128 ∧
        (s.block 127).courses = 1 ∧
        ∃ step ∈ [(⟨127, 2⟩ : SeqStep), ⟨127, 1⟩], [(⟨127, 2⟩ : SeqStep), ⟨127, 1⟩][s.player.cursor.step]? = some step) := by
  decide +kernel

/-- 06, R104: a move of 47 needle spaces at 10 mm/s over a window of 100 counts has a ceiling of 0, and the append reports it. -/
theorem test_infeasible_append :
    let s := withLists { playing with
      machine := { Config.defaultMachine with ulEnd := 2400 }
      profiles := List.replicate 8 { Config.defaultProfile with speed := 10 } } (course 0 0 0) []
    let t := s.append 1 .stream none [⟨1, some (47, 47)⟩]
    (s.ceilingOf (course 0 0 0) (course 1 47 47)).value = 0 ∧ t.lists.current.map CourseRecord.infeasible = some true ∧
      t.link.notices.map Notice.detail = [0x03] := by decide +kernel

/-! ### Witnesses: the course lists and streaming -/

/-- The part in HOLD with a stream open for bar 1 that expects tag 5. -/
def streaming : State :=
  (withBar (runsIn .hold) (chan .idle)).updLists fun l => l.openStream 5 [1]

theorem test_witness_CoursesAreTakenInTurn :
    (base.Quiet ∧ base.PortFree ∧ 4 < 5 ∧ base.run.state = .standby) ∧
    (let s := runsIn .hold; s.Quiet ∧ s.PortFree ∧ s.run.state ≠ .standby ∧ s.lists.streamOpen = false) ∧
    (streaming.Quiet ∧ streaming.PortFree ∧ streaming.run.state ≠ .standby ∧ streaming.lists.streamOpen = true ∧
      (List.replicate 31 (0 : Byte)).length ≠ 4 * (6 + 2 * streaming.lists.streamBars.length) ∧
      (List.replicate 32 (0 : Byte)).length = 4 * (6 + 2 * streaming.lists.streamBars.length)) :=
  ⟨meets (by decide +kernel) (by decide +kernel), meets (by decide +kernel) (by decide +kernel), meets (by decide +kernel) (by decide +kernel)⟩

theorem test_witness_RecordsAreTakenUntilOneFails :
    (∃ t taking, takeRecords 0 [⟨5, 0, [⟨0, 0⟩]⟩, ⟨7, 0, [⟨0, 0⟩]⟩] streaming = (t, taking) ∧
      taking = ⟨1, some ⟨.tagGap, 0⟩⟩) ∧
    (let s := withLists streaming (course 0 0 0) (List.replicate 32 (course 0 0 0))
     s.lists.current.isSome = true ∧ 32 ≤ s.lists.queue.length) ∧
    (streaming.lists.current = none ∧ streaming.lists.expected ≠ some 6 ∧ streaming.lists.expected = some 5 ∧
      streaming.lists.streamBars[0]? = some 1 ∧ ¬(64 ≤ 63 ∧ 0 ≤ 63) ∧ (streaming.profile 1).travel < 48) ∧
    ((withLists streaming (course 4 0 0) []).lists.forward ≠ [] ∧ streaming.lists.forward = []) :=
  ⟨⟨_, _, rfl, by decide +kernel⟩, by decide +kernel, by decide +kernel, by decide +kernel⟩

theorem test_witness_GoodRecordPasses :
    (streaming.lists.current = none ∧ streaming.lists.expected = some 5 ∧ streaming.lists.streamBars[0]? = some 1 ∧
      (streaming.profile 1).travel = 47) ∧
    (let s := withLists streaming (course 0 0 0) (List.replicate 31 (course 0 0 0))
     s.lists.queue.length < 32 ∧ s.recordFailure ⟨5, 0, [⟨47, 0⟩]⟩ = none ∧ s.recordFailure ⟨5, 9, [⟨255, 255⟩]⟩ = none ∧
       s.recordFailure ⟨5, 0, [⟨48, 0⟩]⟩ = some ⟨.badPosition, 1⟩) := by decide +kernel

theorem test_witness_EndStreamIsRefused :
    (ready base = true ∧ base.run.state = .standby) ∧
    (∀ r ∈ [RunState.hold, .run, .halt], ready (runsIn r) = true ∧ (runsIn r).run.state = r ∧
      (runsIn r).lists.streamOpen = false) ∧
    (ready streaming = true ∧ streaming.run.state ≠ .standby ∧ streaming.lists.streamOpen = true ∧
      streaming.lists.current = none ∧ streaming.lists.after = []) := by decide +kernel

theorem test_witness_EndStreamMarksTheLastRecord :
    let s := withLists streaming (course 4 0 0) []
    s.Quiet ∧ s.PortFree ∧ s.run.state ≠ .standby ∧ s.lists.streamOpen = true ∧ s.lists.last = some (course 4 0 0) :=
  meets (by decide +kernel) (by decide +kernel)

theorem test_witness_FlushLeavesABoundSuccessor :
    (let s := (withBar (runsIn .hold) (chan .energizing)).updRun fun r => { r with changing := true, requested := some .run }
     s.Quiet ∧ s.PortFree ∧ s.run.changing = true) ∧
    (base.Quiet ∧ base.PortFree ∧ base.run.changing = false ∧ base.tracker.stopped = false) ∧
    (streaming.Quiet ∧ streaming.PortFree ∧ streaming.run.changing = false ∧ streaming.tracker.stopped = true ∧
      streaming.run.waiting = false) ∧
    (let l := { (withLists streaming (course 4 0 0) [course 5 0 0, { course 6 0 0 with endMark := true }]).lists with bound := true }
     l.current = some (course 4 0 0) ∧ 1 < l.after.length ∧ l.source = .stream ∧
       (∃ r ∈ l.after.drop (if l.bound then 1 else 0), r.endMark = true)) ∧
    ((withLists streaming (course 4 0 0) []).lists.after.length ≤ 0) :=
  ⟨meets (by decide +kernel) (by decide +kernel), meets (by decide +kernel) (by decide +kernel), meets (by decide +kernel) (by decide +kernel), by decide +kernel, by decide +kernel⟩

theorem test_witness_ForwardCrossingMovesTheLists :
    (0 < { Lists.initial with ahead := 65535 }.ahead) ∧
    (let l := { Lists.initial with behind := 1 }; l.ahead = 0 ∧ 0 < l.behind) ∧
    (let l := { Lists.initial with
        current := some (course 0 0 0), queue := [course 1 0 0], bound := true, history := List.replicate 16 (course 9 0 0) }
     l.ahead = 0 ∧ l.behind = 0 ∧ l.current = some (course 0 0 0) ∧ l.successor = some (course 1 0 0) ∧ l.bound = true ∧
       l.replay = [] ∧ joinHistory l.history (course 0 0 0) = List.replicate 15 (course 9 0 0) ++ [course 0 0 0]) ∧
    (Lists.initial.ahead = 0 ∧ Lists.initial.behind = 0 ∧ Lists.initial.current = none) ∧
    (∀ r ∈ [RunState.run, .halt], ∀ mark ∈ [false, true], ∀ reported ∈ [false, true],
      let s := (withLists (runsIn r) { course 0 0 0 with endMark := mark } []).updLists fun l =>
        { l with underrunMark := reported, endMark := reported }
      s.run.state = r ∧ s.lists.ahead = 0 ∧ s.lists.behind = 0 ∧ s.lists.current = some { course 0 0 0 with endMark := mark } ∧
        s.lists.successor = none ∧ s.lists.underrunMark = reported ∧ s.lists.endMark = reported) := by decide +kernel

theorem test_witness_BackwardCrossingRetracesTheLists :
    (0 < { Lists.initial with ahead := 1 }.ahead) ∧
    (let l := { Lists.initial with current := some (course 1 0 0), history := [course 0 0 0] }
     l.ahead = 0 ∧ l.current = some (course 1 0 0) ∧ l.history = [] ++ [course 0 0 0]) ∧
    (let s := runsIn .run; s.lists.ahead = 0 ∧ s.lists.history = [] ∧ s.lists.behind = 0 ∧ s.run.state = .run) := by decide +kernel

/-! ### Witnesses: planner and motion -/

theorem test_witness_MoveTimesFollowTheProfile :
    0 < 1058 ∧ 0 < 1 ∧ 0 < Config.defaultProfile.accel ∧ 0 < Config.defaultProfile.speed ∧ 0 < Config.defaultMachine.pitch := by
  decide

theorem test_witness_CeilingIsTheLowestCandidate :
    ∀ b ∈ playing.assignedBars, (course 0 3 5).lap b = some ⟨1, 3, 5⟩ ∧ (course 1 5 5).lap b = some ⟨1, 5, 5⟩ := by decide +kernel

theorem test_witness_PermitIsTheLowestTerm :
    let l := { Lists.initial with current := some (capped 0 100), queue := [capped 1 50, course 2 0 0] }
    let c : Nat → Ceiling := fun j => if j = 0 then ⟨100, .vmax⟩ else ⟨50, .vmax⟩
    l.current = some (capped 0 100) ∧
      (∀ j, j < l.after.length → ∃ x : CourseRecord, (capped 0 100 :: l.after)[j]? = some x ∧ x.ceiling = some (c j)) ∧
      (0 < l.after.length → (c 0).value ≤ Config.defaultMachine.vmax) := by
  refine ⟨rfl, ?_, by decide +kernel⟩
  intro j hj
  match j, hj with
  | 0, _ => exact ⟨_, rfl, rfl⟩
  | 1, _ => exact ⟨_, rfl, rfl⟩

theorem test_witness_CamFollowsTheMoveLaw :
    let m := Config.defaultMachine
    (0 ≤ 1400 ∧ 1400 ≤ 1400 ∧ 0 < 1400) ∧ m.ovStart < m.ovEnd ∧ m.ovEnd < m.ulStart ∧ m.ulStart < m.ulEnd ∧
      899 < m.ovStart ∧ (m.ovStart ≤ 900 ∧ 1499 < m.ovEnd) ∧ (m.ovEnd ≤ 1500 ∧ 2299 < m.ulStart) ∧
      (m.ulStart ≤ 2300 ∧ 3699 < m.ulEnd) ∧ m.ulEnd ≤ 3700 := by decide +kernel

/-! ### Witnesses: the bar channels -/

theorem test_witness_ExchangeSendsTheSetpoint :
    (base.Quiet ∧ base.PortFree ∧ barExists 64 = true ∧ base.Sized ∧ (base.channel 64).state = .absent) ∧
    (let s := withBar base (chan .off)
     s.Quiet ∧ s.PortFree ∧ barExists 1 = true ∧ s.Sized ∧ (s.channel 1).state = .off ∧
       ((s.channel 1).exchanging = true → (s.channel 1).taken = true) ∧ s.comingExpiry 1 = .none) ∧
    ([chan .energizing, chan .idle, chan .idleReduced, chan .following, chan .faulted].all fun c =>
      let s := withBar base c
      ready s && decide s.Sized && s.channel 1 == c && c.taken && s.comingExpiry 1 == .none) = true :=
  ⟨meets (by decide +kernel) (by decide +kernel), meets (by decide +kernel) (by decide +kernel), by decide +kernel⟩

theorem test_witness_ExchangeMovesTheSetpoint :
    let mv : TimedMove := ⟨0, 1058, 6506, 26⟩
    (250 * mv.sent < mv.time ∧ ¬1000 * Config.defaultMachine.settleTimeout ≤ 99749 + 250) ∧
    (∀ c ∈ [chan .off, chan .energizing, { chan .energizing with enableTimer := some 0 },
        { chan .energizing with energizeTimer := some 0 }, chan .idle, { chan .idle with holdTimer := some 0 },
        refd .idleReduced, refd .following, chan .faulted, { refd .aligning with move := some mv }, refd .aligning,
        { refd .jogging with move := some mv, jog := some ⟨1, 1058, 6506⟩ },
        { refd .jogging with settleTimer := some 99749, jog := some ⟨1, 1058, 6506⟩ },
        { chan .referencing with move := some mv, phase := some .zero, refPoint := some 0 },
        { chan .referencing with last := some ⟨true, true, 0, 0⟩ }, chan .referencing,
        { chan .referencing with phase := some .leave, limit := 2116 },
        { chan .referencing with phase := some .search, limit := -60000 }],
      ∀ missed ∈ [0, 1, 2], ∀ taken ∈ [false, true],
        let s := withBar (runsIn .hold) { c with missed := missed, taken := taken }
        ready s = true ∧ barExists 1 = true ∧ s.Sized ∧ (s.channel 1).state = c.state ∧ (s.channel 1).missed ≠ 3 ∧
          (s.channel 1).exchanging = true) := by decide +kernel

/-- 08, section 8.5, exchange 1 of LEAVE: the switch is active at 50,300, the limit is 52,416, and the setpoint rises by 10. -/
theorem test_leave_begins : gives (.exchange 1)
    (withBar (runsIn .hold) { chan .referencing with last := some ⟨true, true, 0, 50300⟩, setpoint := 50300 }) (fun t =>
      (t.channel 1).phase == some .leave && (t.channel 1).limit == 52416 && (t.channel 1).setpoint == 50310 &&
        (t.channel 1).sentNew == 50310) = true := by decide +kernel

theorem test_witness_FourthMissingStatusLosesTheDrive :
    (let s := withBar (runsIn .run) { chan .following with taken := false, missed := 3 }
     s.Quiet ∧ s.PortFree ∧ barExists 1 = true ∧ s.Sized ∧ (s.channel 1).state ≠ .absent ∧ (s.channel 1).exchanging = true ∧
       (s.channel 1).taken = false ∧ (s.channel 1).missed = 3 ∧ (s.channel 1).state.enabled = true ∧ s.run.state = .run) ∧
    (let s := withBar base { chan .off with taken := false, missed := 3 }
     s.Quiet ∧ s.PortFree ∧ s.Sized ∧ (s.channel 1).state ≠ .absent ∧ (s.channel 1).exchanging = true ∧
       (s.channel 1).taken = false ∧ (s.channel 1).missed = 3 ∧ (s.channel 1).state.enabled = false) ∧
    (let s := withBar base { chan .off with missed := 2 }
     s.Quiet ∧ s.PortFree ∧ s.Sized ∧ (s.channel 1).state ≠ .absent ∧ (s.channel 1).missed ≠ 3) :=
  ⟨meets (by decide +kernel) (by decide +kernel), meets (by decide +kernel) (by decide +kernel), meets (by decide +kernel) (by decide +kernel)⟩

theorem test_witness_TimersEndAtTheirExchange :
    (let s := withBar (runsIn .run) { chan .energizing with enableTimer := some 499750 }
     s.Quiet ∧ s.PortFree ∧ barExists 1 = true ∧ s.Sized ∧ (s.channel 1).missed < 3 ∧ (s.channel 1).state = .energizing ∧
       (s.channel 1).enableTimer = some 499750 ∧ 1000 * s.machine.enableTimeout ≤ 499750 + 250) ∧
    (let s := withBar (runsIn .hold) { chan .energizing with energizeTimer := some 49750 }
     s.Quiet ∧ s.PortFree ∧ s.Sized ∧ (s.channel 1).missed < 3 ∧ (s.channel 1).state = .energizing ∧
       (s.channel 1).enableTimer = none ∧ (s.channel 1).energizeTimer = some 49750 ∧
       1000 * s.machine.energizeTime ≤ 49750 + 250) ∧
    (let s := withBar (runsIn .hold) { chan .idle with holdTimer := some 1999750 }
     s.Quiet ∧ s.PortFree ∧ s.Sized ∧ (s.channel 1).missed < 3 ∧ (s.channel 1).state = .idle ∧ s.machine.holdDelay ≠ 0 ∧
       (s.channel 1).holdTimer = some 1999750 ∧ 1000 * s.machine.holdDelay ≤ 1999750 + 250) ∧
    (let s := withBar (runsIn .hold) { refd .jogging with settleTimer := some 99750, jog := some ⟨1, 1058, 6506⟩ }
     s.Quiet ∧ s.PortFree ∧ s.Sized ∧ (s.channel 1).missed < 3 ∧ (s.channel 1).state = .jogging ∧
       (s.channel 1).settleTimer = some 99750 ∧ 1000 * s.machine.settleTimeout ≤ 99750 + 250 ∧
       (s.channel 1).jog = some ⟨1, 1058, 6506⟩ ∧ (s.channel 1).last = some ⟨true, false, 0, 0⟩) :=
  ⟨meets (by decide +kernel) (by decide +kernel), meets (by decide +kernel) (by decide +kernel), meets (by decide +kernel) (by decide +kernel), meets (by decide +kernel) (by decide +kernel)⟩

theorem test_witness_TargetsAreReached :
    let mv : TimedMove := ⟨0, 100, 250, 1⟩
    mv.time ≤ mv.sent * 250 ∧
    (let s := withBar (runsIn .hold) { refd .jogging with move := some mv, jog := some ⟨1, 100, 250⟩ }
     s.Quiet ∧ s.PortFree ∧ s.Sized ∧ (s.channel 1).missed < 3 ∧ (s.channel 1).move = some mv ∧
       (s.channel 1).state = .jogging ∧ (s.channel 1).jog = some ⟨1, 100, 250⟩ ∧ (s.channel 1).settleTimer = none) ∧
    (let s := { withBar (runsIn .hold) { chan .referencing with move := some mv, phase := some .zero, refPoint := some 0 } with
        referencing := some ⟨1, 1, 0, 0, 0, 10⟩ }
     s.Quiet ∧ s.PortFree ∧ s.Sized ∧ (s.channel 1).missed < 3 ∧ (s.channel 1).move = some mv ∧
       (s.channel 1).state = .referencing ∧ (s.channel 1).phase = some .zero ∧
       s.referencing = some ⟨1, 1, 0, 0, 0, 10⟩ ∧ inSet 1 1 = true) ∧
    (let s := (withBar (runsIn .hold) { refd .aligning with move := some mv }).updRun fun r =>
        { r with changing := true, requested := some .run }
     s.Quiet ∧ s.PortFree ∧ s.Sized ∧ (s.channel 1).missed < 3 ∧ (s.channel 1).move = some mv ∧
       (s.channel 1).state = .aligning) :=
  ⟨by decide +kernel, meets (by decide +kernel) (by decide +kernel), meets (by decide +kernel) (by decide +kernel), meets (by decide +kernel) (by decide +kernel)⟩

theorem test_witness_StatusFrameIsTaken :
    let d : DriveStatus := ⟨true, false, 15, 8388607⟩
    let d0 : DriveStatus := ⟨true, false, 0, -8388608⟩
    (d.fault < 16 ∧ -8388608 ≤ d.actual ∧ d.actual ≤ 8388607 ∧ -8388608 ≤ d0.actual ∧ d0.actual ≤ 8388607) ∧
    (base.Quiet ∧ base.PortFree ∧ base.Sized ∧ barExists 1 = true ∧ onLine .lineD 1 = false ∧ (base.channel 1).state = .absent) ∧
    [(0 : Byte), 0] ≠ crcBytes ((statusBytes 1 d).tail.take 5) ∧
    (let s := withBar (runsIn .run) { chan .following with taken := false }
     s.Quiet ∧ s.PortFree ∧ s.Sized ∧ onLine .lineA 1 = true ∧ (s.channel 1).state ≠ .absent ∧ (s.channel 1).taken = false ∧
       (s.channel 1).state.enabled = true ∧ d.fault ≠ 0 ∧ s.run.state = .run ∧ (s.channel 1).state = .following ∧
       d0.fault = 0 ∧ d0.ready = true ∧ s.machine.followLimit < (d0.actual - (s.channel 1).sentOld).natAbs ∧
       (400 - (s.channel 1).sentOld).natAbs ≤ s.machine.followLimit) ∧
    (let s := withBar base { chan .faulted with taken := false }
     s.Quiet ∧ s.PortFree ∧ s.Sized ∧ (s.channel 1).taken = false ∧ (s.channel 1).state = .faulted) :=
  ⟨by decide +kernel, meets (by decide +kernel) (by decide +kernel), by decide +kernel, meets (by decide +kernel) (by decide +kernel), meets (by decide +kernel) (by decide +kernel)⟩

theorem test_witness_StatusActsByTheState :
    (∀ c ∈ [{ chan .energizing with readySeen := false }, chan .energizing, chan .idle, refd .idleReduced, refd .aligning,
        { refd .jogging with settleTimer := some 0, jog := some ⟨1, 350, 6506⟩ }, { refd .jogging with jog := some ⟨1, 350, 6506⟩ },
        { chan .referencing with phase := none }, { chan .referencing with phase := some .zero },
        { chan .referencing with phase := some .leave, limitSent := 1 },
        { chan .referencing with phase := some .leave, limitSent := 2 },
        { chan .referencing with phase := some .search, limitSent := 1 },
        { chan .referencing with phase := some .search, limitSent := 2 },
        { chan .off with view := .unknown }, chan .off, { chan .faulted with view := .silent }],
      let s := withBar (runsIn .hold) { c with taken := false }
      ready s = true ∧ s.Sized ∧ (s.channel 1).taken = false ∧ (s.channel 1).state = c.state ∧ (s.channel 1).phase = c.phase ∧
        s.run.requested ≠ some .run ∧ s.referencing = none ∧ (s.channel 1).sentOld = 0 ∧ onLine .lineA 1 = true) ∧
    (let m := Config.defaultMachine
     let p := Config.defaultProfile
     (400 - 0 : Int).natAbs ≤ m.followLimit ∧ (400 - 350 : Int).natAbs ≤ m.inPosition ∧ ¬(299 - 350 : Int).natAbs ≤ m.inPosition ∧
       m.followLimit < (401 - 0 : Int).natAbs ∧ (0 : Int) + p.zeroOffset + p.travel * m.pitch ≤ 8388607) ∧
    (inSet 1 1 = true ∧ (1 : BarSet) &&& ~~~(barBit 1) = 0 ∧ inSet 3 1 = true ∧ (3 : BarSet) &&& ~~~(barBit 1) ≠ 0) ∧
    (let s := (withBar (runsIn .run 2410) { refd .following with taken := false })
     ready s = true ∧ s.Sized ∧ s.run.state = .run ∧ (s.channel 1).state.enabled = true ∧ (s.channel 1).readySeen = true) ∧
    (let s := (withBar base { chan .off with taken := false }).notify (.driveChange .silent 0 false 0) 0x01 1
     ready s = true ∧ s.Sized ∧ s.NoticesSound ∧ (s.channel 1).view = .ready ∧
       s.link.notices[0]? = some ⟨.driveChange .silent 0 false 0, 0x01, 1, 0, 0⟩) := by decide +kernel

theorem test_witness_ReferenceAndJogStartTheirMoves :
    (let s := withBar (runsIn .hold) (refd .idleReduced)
     s.Quiet ∧ s.PortFree ∧ s.Sized ∧ s.run.state = .hold ∧ s.run.changing = false ∧ s.tracker.stopped = true ∧
       s.referencing = none ∧ (1 : BarSet) ≠ 0 ∧
       (∀ x ∈ barsOf 1, s.assigned x = true ∧ (s.channel x).state.holding = true) ∧
       barExists 1 = true ∧ (s.channel 1).referenced = true ∧ (s.channel 1).state.holding = true ∧
       (∀ n ∈ s.link.notices, n.jogDoneBar ≠ some 1) ∧ 47 ≤ (s.profile 1).travel) ∧
    (let s := { withBar (runsIn .hold) (chan .referencing) with referencing := some ⟨1, 1, 0, 0, 0, 10⟩ }
     s.Quiet ∧ s.PortFree ∧ s.Sized ∧ s.referencing = some ⟨1, 1, 0, 0, 0, 10⟩) :=
  ⟨meets (by decide +kernel) (by decide +kernel), meets (by decide +kernel) (by decide +kernel)⟩

theorem test_witness_ReferenceAndJogAreRefused :
    (∀ r ∈ [RunState.standby, .run, .halt], ready (runsIn r) = true ∧ (runsIn r).run.state ≠ .hold) ∧
    (let s := (withBar (runsIn .hold) (refd .aligning)).updRun fun r => { r with changing := true, requested := some .run }
     ready s = true ∧ s.run.state = .hold ∧ s.run.changing = true) ∧
    (let s := { runsIn .hold with referencing := some ⟨1, 1, 0, 0, 0, 10⟩ }
     ready s = true ∧ s.run.changing = false ∧ s.referencing.isSome = true) ∧
    (let s := (runsIn .hold).updTracker fun t => { t with stopped := false }
     ready s = true ∧ s.referencing = none ∧ s.tracker.stopped = false) ∧
    (let s := withBar (runsIn .hold) (refd .jogging)
     ready s = true ∧ s.tracker.stopped = true ∧ inSet 3 2 = true ∧ s.assigned 2 = false ∧ s.assigned 1 = true ∧
       inSet 1 1 = true ∧ (s.channel 1).state ≠ .idle ∧ (s.channel 1).state ≠ .idleReduced ∧ (s.channel 1).referenced = true ∧
       (s.channel 64).referenced = false ∧ 64 < 65 ∧ 0 < 1) ∧
    (∀ c ∈ [refd .idle, refd .idleReduced],
      let s := withBar (runsIn .hold) c
      let full := s.notify (.jogDone 0 0 0) 0 1
      ready s = true ∧ ready full = true ∧ (full.channel 1).referenced = true ∧ (∃ n ∈ full.link.notices, n.jogDoneBar = some 1) ∧
        (∀ n ∈ s.link.notices, n.jogDoneBar ≠ some 1) ∧ (s.profile 1).travel < 48) := by decide +kernel

/-! ### Witnesses: the run controller -/

theorem test_witness_RunStateRequestsFollowTheirTable :
    (base.Quiet ∧ base.PortFree ∧ base.PermitSound ∧ 2 < 3 ∧ base.run.changing = false ∧ base.run.state = .standby) ∧
    (let s := (withBar base (chan .energizing)).updRun fun r => { r with changing := true, requested := some .hold }
     s.Quiet ∧ s.PortFree ∧ s.PermitSound ∧ s.run.changing = true) ∧
    (let s := withBar (runsIn .hold) (chan .idle)
     s.Quiet ∧ s.PortFree ∧ s.PermitSound ∧ s.run.state = .hold ∧
       s.assignedBars.find? (fun x => !(s.channel x).referenced) = some 1) ∧
    (let s := withBar (runsIn .hold) (refd .idle)
     s.Quiet ∧ s.PortFree ∧ s.PermitSound ∧ (∀ x ∈ s.assignedBars, (s.channel x).referenced = true) ∧
       s.lists.source = .player ∧ s.player.active = none) ∧
    (let s := (withBar (runsIn .hold) (refd .idle)).updLists fun l => { l with source := .stream }
     s.Quiet ∧ s.PortFree ∧ s.PermitSound ∧ (∀ x ∈ s.assignedBars, (s.channel x).referenced = true) ∧
       s.lists.source = .stream ∧ s.lists.streamOpen = false ∧ s.lists.endSeen = false) ∧
    (let s := withBar streaming (refd .idle)
     s.Quiet ∧ s.PortFree ∧ s.PermitSound ∧ (∀ x ∈ s.assignedBars, (s.channel x).referenced = true) ∧
       s.lists.source = .stream ∧ s.lists.streamOpen = true ∧ s.fitForRun = false) ∧
    (let s := withLists (withBar streaming (refd .idle)) (course 4 0 0) []
     s.Quiet ∧ s.PortFree ∧ s.PermitSound ∧ s.lists.streamOpen = true ∧ s.fitForRun = true ∧ s.assignedBars ≠ []) ∧
    (let s := withBar base (chan .off)
     s.Quiet ∧ s.PortFree ∧ s.PermitSound ∧ s.run.state = .standby ∧ s.run.changing = false ∧ s.Sized ∧
       (∃ b ∈ s.assignedBars, (s.channel b).state = .off)) ∧
    (∀ r ∈ [RunState.run, .halt], let s := runsIn r
      s.Quiet ∧ s.PortFree ∧ s.PermitSound ∧ s.run.changing = false ∧ s.run.state = r ∧ s.tracker.stopped = true) ∧
    (∀ r ∈ [RunState.run, .halt], let s := (runsIn r).updTracker fun t => { t with stopped := false }
      s.Quiet ∧ s.PortFree ∧ s.PermitSound ∧ s.run.changing = false ∧ s.run.state = r ∧ s.tracker.stopped = false) := by
  refine ⟨meets (by decide +kernel) (by decide +kernel), meets (by decide +kernel) (by decide +kernel), meets (by decide +kernel) (by decide +kernel),
    meets (by decide +kernel) (by decide +kernel), meets (by decide +kernel) (by decide +kernel), meets (by decide +kernel) (by decide +kernel), meets (by decide +kernel) (by decide +kernel),
    meets (by decide +kernel) (by decide +kernel), ?_, ?_⟩ <;>
  · intro r hr
    simp only [List.mem_cons, List.not_mem_nil, or_false] at hr
    rcases hr with rfl | rfl <;> exact meets (by decide +kernel) (by decide +kernel)

theorem test_witness_HoldAndStandbyAreEntered :
    (let s := (withBar base (chan .faulted)).updRun fun r => { r with changing := true, requested := some .hold }
     s.isHeld = false ∧ s.Sized ∧ s.run.state = .standby ∧ s.run.changing = true ∧ s.run.requested = some .hold ∧
       (∀ b ∈ s.assignedBars, (s.channel b).state.holding = true ∨ (s.channel b).state = .faulted)) ∧
    (∀ q ∈ [Target.hold, .standby], let s := (runsIn .halt).updRun fun r => { r with waiting := true, requested := some q }
      s.isHeld = false ∧ s.Sized ∧ (s.run.state = .run ∨ s.run.state = .halt) ∧ s.run.changing = false ∧
        s.run.waiting = true ∧ s.tracker.stopped = true ∧ s.run.requested = some q) := by
  refine ⟨by decide +kernel, ?_⟩
  intro q hq
  simp only [List.mem_cons, List.not_mem_nil, or_false] at hq
  rcases hq with rfl | rfl <;> decide +kernel

theorem test_witness_AlignmentLeadsIntoRun :
    (let s := (withLists (withBar streaming (refd .idleReduced)) (course 4 0 0) []).updRun fun r =>
        { r with waiting := true, requested := some .run }
     s.isHeld = false ∧ s.Sized ∧ s.run.state = .hold ∧ s.run.requested = some .run ∧ s.run.waiting = true ∧
       s.run.changing = false ∧ s.tracker.sync = .locked ∧ s.tracker.stopped = true ∧
       (∀ b ∈ s.assignedBars, (s.channel b).state.holding = true ∧ (s.channel b).referenced = true) ∧
       s.lists.current.isSome = true ∧ (s.machine.ulStart ≤ s.tracker.angle → s.lists.successor.isSome = true) ∧
       s.player.search = none ∧ s.assigned 1 = true ∧ (s.channel 1).refPoint = some 0 ∧
       s.lists.current.bind (·.lap 1) = some ⟨1, 0, 0⟩) ∧
    (let s := (withLists (withBar (runsIn .hold 2300) { refd .aligning with aligned := true }) (course 4 0 0)
        [course 5 0 0]).updRun fun r => { r with changing := true, requested := some .run }
     s.isHeld = false ∧ s.Sized ∧ s.run.state = .hold ∧ s.run.requested = some .run ∧ s.run.changing = true ∧
       (∀ b ∈ s.assignedBars, (s.channel b).state = .aligning ∧ (s.channel b).aligned = true) ∧
       s.lists.successor.isSome = true ∧ s.lists.inStep = true ∧ (s.channel 1).refPoint = some 0) ∧
    (let s := (withLists (withBar (runsIn .hold 2299) { refd .aligning with aligned := true }) (course 4 0 0) []).updRun
        fun r => { r with changing := true, requested := some .run }
     s.isHeld = false ∧ s.Sized ∧ s.run.state = .hold ∧ s.run.changing = true ∧
       (∀ b ∈ s.assignedBars, (s.channel b).state = .aligning ∧ (s.channel b).aligned = true) ∧
       s.lists.successor = none ∧ s.lists.current = some (course 4 0 0) ∧ (course 4 0 0).endMark = false ∧
       s.lists.inStep = true ∧ s.tracker.stopped = true ∧ s.tracker.sync = .locked ∧
       s.tracker.angle < s.machine.ulStart ∧ s.lists.starvedMark = false) := by decide +kernel

theorem test_witness_AHaltKeepsItsFirstCause :
    (runsIn .run).run.state = .run ∧ (runsIn .halt).run.state = .halt ∧
    (base.run.state = .standby ∧ base.run.changing = false ∧ base.run.waiting = false) ∧
    (let s := (runsIn .hold).updRun fun r => { r with waiting := true, requested := some .run }
     s.run.state = .hold ∧ s.run.changing = false ∧ s.run.waiting = true ∧ s.run.requested = some .run) ∧
    (let s := (runsIn .hold).updRun fun r => { r with changing := true, requested := some .run }
     s.run.state = .hold ∧ s.run.changing = true ∧ s.run.requested = some .run) := by decide +kernel

theorem test_witness_PermitFrameCarriesTheValues :
    (base.Quiet ∧ base.PortFree ∧ base.permitLine.due = false) ∧
    (base.permitDue.Quiet ∧ base.permitDue.PortFree ∧ base.permitDue.permitLine.due = true) :=
  ⟨meets (by decide +kernel) (by decide +kernel), meets (by decide +kernel) (by decide +kernel)⟩

/-! ### Witnesses: the shaft -/

/-- The shaft in a sync state at an angle, MOVING. -/
def turning (y : SyncState) (angle : Nat) : State := base.updTracker fun t => { t with sync := y, angle := angle }

theorem test_witness_CountsMoveTheAngle :
    (∀ x ∈ [(SyncState.noSignal, 3999), (.seekingIndex, 0), (.checking, 3999), (.locked, 3999), (.locked, 0), (.locked, 2299),
        (.locked, 2300)],
      let s := turning x.1 x.2
      ready s = true ∧ s.tracker.stopped = false ∧ s.tracker.angle = x.2 ∧
        transition s.tracker.levels ⟨true, false⟩ = .forward ∧ transition s.tracker.levels ⟨false, true⟩ = .backward ∧
        transition s.tracker.levels ⟨true, true⟩ = .error ∧ transition s.tracker.levels ⟨false, false⟩ = .none) ∧
    2299 + 1 = base.machine.ulStart ∧ 2300 = base.machine.ulStart ∧
    (∀ r ∈ [RunState.run, .halt, .hold, .standby],
      ready (runsIn r) = true ∧ (runsIn r).anyJog = false ∧ (runsIn r).referencing = none ∧ (runsIn r).run.changing = false) := by
  decide

theorem test_witness_UnderlapEventsAndOverspeed :
    (∀ r ∈ [RunState.standby, .hold, .run, .halt], ∀ angle ∈ [2299, 2300, 3000, 3999], ∀ mark ∈ [false, true],
      ∀ reported ∈ [false, true], ∀ q ∈ [[], [course 5 47 0]],
      let s := ((withLists (withBar (runsIn r angle) (refd .following)) { course 4 0 3 with endMark := mark } q).updTracker fun t =>
        { t with stopped := false }).updLists fun l => { l with underrunMark := reported }
      ready s = true ∧ s.Sized ∧ s.tracker.sync = .locked ∧ s.tracker.stopped = false ∧ s.lists.inStep = true ∧
        s.lists.successor = q.head? ∧ (course 4 0 3).lap 1 = some ⟨1, 0, 3⟩) ∧
    (let s := ((withLists (runsIn .run 3999) (course 4 0 0) [course 5 0 0]).updTracker fun t =>
        { t with stopped := false, courseStart := some 0, valid := true }).updLists fun l =>
          { l with source := .stream, bound := true }
     ready s = true ∧ s.Sized ∧ s.tracker.angle = 3999 ∧ s.lists.bound = true ∧
       s.run.peak + s.machine.margin < min 65535 (60000000 / max 1 (min 4294967295 (s.now + 900 - 0))) ∧
       min 65535 (60000000 / max 1 (min 4294967295 (s.now + 60000000 - 0))) ≤ s.run.peak + s.machine.margin) := by
  decide +kernel

/-- The part in HOLD with a standing shaft, a jog of bar 1 under way and bar 2 in its referencing. -/
def moving : State :=
  let s := withBar (runsIn .hold) { refd .jogging with jog := some ⟨1, 1058, 6506⟩ }
  { s with
    assign := s.assign.set 1 (some 0), channels := s.channels.set 1 (chan .referencing)
    referencing := some ⟨2, 2, 0, 0, 0, 10⟩ }

theorem test_witness_CountsRaiseTheirEvents :
    (∀ r ∈ [RunState.standby, .hold, .run, .halt], ∀ angle ∈ [0, 2299, 2300, 3999], ∀ y ∈ [SyncState.noSignal, .seekingIndex, .checking, .locked],
      let s := (withLists (withBar (runsIn r) (refd .following)) (course 4 0 3) [course 5 0 0]).updTracker fun t =>
        { t with sync := y, angle := angle }
      ready s = true ∧ s.Sized ∧ s.tracker.stopped = true ∧ s.tracker.sync = y ∧ s.tracker.angle = angle ∧
        s.run.changing = false) ∧
    (transition (runsIn .hold).tracker.levels ⟨true, false⟩ = .forward ∧
      transition (runsIn .hold).tracker.levels ⟨false, true⟩ = .backward) ∧
    (ready moving = true ∧ moving.Sized ∧ moving.tracker.stopped = true ∧ (moving.channel 1).jog.isSome = true ∧
      (moving.channel 1).last.isSome = true ∧ moving.remains 1 = false ∧ moving.remains 2 = true) ∧
    (let s := (withBar (runsIn .hold) (refd .aligning)).updRun fun r => { r with changing := true, requested := some .run }
     ready s = true ∧ s.Sized ∧ s.run.changing = true ∧ s.run.requested = some .run ∧ (s.channel 1).state = .aligning) := by
  decide +kernel

/-- 08, section 8.5 ("Suppose instead that an operator had nudged the shaft"): the bar of a referencing finishes with SHAFT_MOVED, IDLE
and unreferenced, and REFERENCE_DONE says so with detail 0x04; a jog alone ends with JOG_DONE, detail 0x03 (R151). -/
theorem test_shaft_ends_motions :
    gives (.encoderCount ⟨true, false⟩ 5) (withBar moving (chan .off)) (fun t =>
      t.referencing.isNone && (t.channel 2).state == .idle && !(t.channel 2).referenced &&
        t.link.notices == [⟨.referenceDone 0, 0x04, 1, 0, 1⟩]) = true ∧
    gives (.encoderCount ⟨true, false⟩ 5) { moving with referencing := none } (fun t =>
      (t.channel 1).jog.isNone && (t.channel 1).state == .idle && (t.channel 1).referenced &&
        t.link.notices == [⟨.jogDone 1 (-1058) 6506, 0x03, 1, 0, 1⟩]) = true := by decide +kernel

theorem test_witness_ErrorsEndTheMotions :
    (ready moving = true ∧ moving.Sized) ∧
    (∀ y ∈ [SyncState.noSignal, .seekingIndex, .checking, .locked],
      let s := withBar (turning y 7) (refd .following)
      ready s = true ∧ s.Sized ∧ (s.channel 1).state = .following ∧ s.tracker.sync = y) := by decide +kernel

theorem test_witness_CorrectionsRaiseTheirEvents :
    ∀ r ∈ [RunState.standby, .hold, .run, .halt],
      ∀ x ∈ [(3999, 1), (3998, 0), (1, 3999), (0, 3998), (2299, 2300), (2298, 2300), (2300, 2299), (2301, 2299), (2297, 2299), (2302, 2300)],
        let s := (runsIn r).updTracker fun t => { t with angle := x.1 }
        let t := { s with machine := { s.machine with indexAngle := x.2 } }
        let gap := if x.1 ≤ x.2 then x.2 - x.1 else x.1 - x.2
        ready t = true ∧ t.AngleSound ∧ t.tracker.sync = .locked ∧ t.run.state = r ∧ 1 ≤ min gap (4000 - gap) ∧
          min gap (4000 - gap) ≤ t.machine.tolerance := by decide +kernel

theorem test_witness_IndexArrivalsAreJudgedByState :
    (∀ x ∈ [(SyncState.noSignal, 7), (.seekingIndex, 7), (.checking, 7), (.checking, 3998), (.locked, 0), (.locked, 3), (.locked, 2),
        (.locked, 3998)],
      ready (turning x.1 x.2) = true ∧ (turning x.1 x.2).AngleSound) ∧
    (let s := (turning .checking 3998).updTracker fun t => { t with travel := -3998 }
     ready s = true ∧ s.AngleSound ∧ 4000 - s.machine.tolerance ≤ s.tracker.travel.natAbs) ∧
    (let s := { turning .locked 1 with machine := { Config.defaultMachine with indexAngle := 3999 } }
     ready s = true ∧ s.AngleSound ∧ s.tracker.angle < s.machine.indexAngle ∧ 2000 < s.machine.indexAngle - s.tracker.angle) ∧
    (let s := runsIn .run 3
     ready s = true ∧ s.AngleSound ∧ s.tracker.sync = .locked ∧ s.machine.tolerance < 3 ∧ s.run.state = .run) := by decide +kernel

theorem test_witness_TheStopTimerStopsTheShaft :
    let moving (s : State) : State := s.updTracker fun t => { t with stopped := false }
    (ready (runsIn .hold) = true ∧ (runsIn .hold).tracker.stopped = true) ∧
    (∀ r ∈ [RunState.standby, .hold, .halt], ready (moving (runsIn r)) = true ∧ (moving (runsIn r)).tracker.stopped = false) ∧
    (let s := moving (withLists (runsIn .run) (course 0 0 0) [course 1 0 0])
     ready s = true ∧ s.run.state = .run ∧ s.lists.successor.isSome = true) ∧
    (let s := moving (withLists (runsIn .run 2299) (course 0 0 0) [])
     ready s = true ∧ s.run.state = .run ∧ s.tracker.sync = .locked ∧ s.tracker.angle < s.machine.ulStart ∧
       s.lists.inStep = true ∧ s.lists.current = some (course 0 0 0) ∧ s.lists.successor = none ∧
       (course 0 0 0).endMark = false ∧ s.lists.starvedMark = false) := by decide +kernel

/-! ### Witnesses: what every step keeps -/

theorem test_witness_EveryStepKeepsTheTables :
    step base = .next base.idle ∧ base.Sized ∧ base.AngleSound ∧ base.NoticesSound ∧ base.BufferSound := ⟨rfl, by decide +kernel⟩

theorem test_witness_EveryStepKeepsTheRunControl :
    step (runsIn .run) = .next (runsIn .run).idle ∧ (runsIn .run).RequestSound ∧ (runsIn .run).PermitSound ∧
      (runsIn .run).ListsSound := ⟨rfl, by decide +kernel⟩

theorem test_witness_EveryStepKeepsTheStore : step base = .next base.idle ∧ base.Sized ∧ base.StoreSound :=
  ⟨rfl, by decide +kernel, by decide +kernel⟩

theorem test_witness_DriveCommandsLeaveTheOtherBlocks :
    base.Quiet ∧ base.PortFree ∧ (∃ t, exec (.exchange 64) base = .next t) ∧
      (∃ line bytes d, (Instr.statusFrame .lineA (statusBytes 1 ⟨true, false, 0, 0⟩)) = .statusFrame line bytes ∧
        parseStatus bytes = some (1, d)) :=
  meets (by decide +kernel) ⟨⟨_, rfl⟩, .lineA, statusBytes 1 ⟨true, false, 0, 0⟩, ⟨true, false, 0, 0⟩, rfl, by decide +kernel⟩

theorem test_witness_OnlyItsCommandsChangeABlock :
    base.link.resetOwed = none ∧ base.PortFree ∧ ∃ t, exec (.exchange 1) base = .next t := ⟨rfl, ⟨rfl, rfl⟩, _, rfl⟩

end Sys2Proof.Tests
end

section
/-! PROOF. Every step keeps the tables at their sizes, the angles on the circle, the notice queue and the receive buffer within
their places. `State.Tabled` holds what is kept; each operation of the model has one lemma, in the order of the definitions,
which puts together the lemmas of the operations that it is made of. -/

namespace Sys2Proof.Machine

/-- The notice queue and the receive buffer are within their places, with one DRIVE_CHANGE a bar at most (10, R177, R182). -/
def Link.Sound (l : Link) : Prop :=
  l.notices.length ≤ Config.noticeRoom ∧ (driveChangeBars l.notices).Nodup ∧ l.buffer.length ≤ Config.bufferRoom

/-- What every step keeps of the tables, the angles and the link. -/
structure State.Tabled (s : State) : Prop where
  sized : s.Sized
  angles : s.AngleSound
  link : s.link.Sound

theorem State.tabled_iff (s : State) :
    s.Tabled ↔ s.Sized ∧ s.AngleSound ∧ s.NoticesSound ∧ s.BufferSound :=
  ⟨fun ⟨hs, ha, hn, hd, hb⟩ => ⟨hs, ha, ⟨hn, hd⟩, hb⟩, fun ⟨hs, ha, ⟨hn, hd⟩, hb⟩ => ⟨hs, ha, hn, hd, hb⟩⟩

/-! ### The notice queue -/

/-- The kinds of notice of which the queue may hold more than one for a bar: all but DRIVE_CHANGE. -/
def Report.isPlain : Report → Bool
  | .driveChange _ _ _ _ => false
  | _ => true

theorem Notice.driveChangeBar_of_isPlain {n : Notice} (h : n.report.isPlain = true) : n.driveChangeBar = none := by
  unfold Notice.driveChangeBar
  split
  next heq => simp [Report.isPlain, heq] at h
  next => rfl

theorem Notice.driveChangeBar_eq_some {n : Notice} {b : Nat} (h : n.driveChangeBar = some b) :
    ∃ before fault switch actual, n.report = .driveChange before fault switch actual ∧ n.subject = b := by
  unfold Notice.driveChangeBar at h
  split at h
  next heq => exact ⟨_, _, _, _, heq, Option.some.inj h⟩
  next => cases h

/-- A record renewed is about the bar that it was about. -/
theorem Notice.driveChangeBar_renewedBy {old new : Notice} {b : Nat} (ho : old.driveChangeBar = some b)
    (hn : new.driveChangeBar = some b) : (old.renewedBy new).driveChangeBar = some b := by
  obtain ⟨before, _, _, _, ho, -⟩ := Notice.driveChangeBar_eq_some ho
  obtain ⟨_, fault, switch, actual, hn, hb⟩ := Notice.driveChangeBar_eq_some hn
  simp [Notice.renewedBy, ho, hn, Notice.driveChangeBar, hb]

/-- A notice joins the tail, unless the queue is full (10, R182). -/
theorem Link.Sound.offer {l : Link} (h : l.Sound) {n : Notice}
    (hn : ∀ b, n.driveChangeBar = some b → b ∉ driveChangeBars l.notices) : (l.offer n).Sound := by
  obtain ⟨hlen, hnodup, hbuf⟩ := h
  refine ⟨Link.offer_length l n hlen, ?_, ?_⟩
  · unfold Link.offer
    split
    · cases hb : n.driveChangeBar with
      | none => simpa [driveChangeBars, List.filterMap_append, hb] using hnodup
      | some b =>
        have joined : driveChangeBars (l.notices ++ [n]) = (driveChangeBars l.notices).concat b := by
          simp [driveChangeBars, hb]
        exact joined ▸ hnodup.concat (hn b hb)
    · exact hnodup
  · rw [Link.offer_frame]; exact hbuf

/-- A change of view renews the record of its bar, or joins the queue as the first of its bar (07, R123). -/
theorem Link.Sound.offerDriveChange {l : Link} (h : l.Sound) {n : Notice} (hn : n.driveChangeBar = some n.subject) :
    (l.offerDriveChange n).Sound := by
  unfold Link.offerDriveChange
  split
  next hany =>
    have same : ∀ o : Notice,
        (if o.driveChangeBar == some n.subject then o.renewedBy n else o).driveChangeBar = o.driveChangeBar := fun o => by
      split
      next heq => rw [Notice.driveChangeBar_renewedBy (eq_of_beq heq) hn, eq_of_beq heq]
      next => rfl
    obtain ⟨hlen, hnodup, hbuf⟩ := h
    refine ⟨by simpa using hlen, ?_, hbuf⟩
    simpa only [driveChangeBars, List.filterMap_map, Function.comp_def, same] using hnodup
  next hany =>
    refine h.offer fun b hb hmem => hany ?_
    obtain rfl : n.subject = b := Option.some.inj (hn.symm.trans hb)
    obtain ⟨o, ho, hob⟩ := List.mem_filterMap.mp hmem
    exact List.any_eq_true.mpr ⟨o, ho, by simp [hob]⟩

/-- The oldest notice leaves the queue (10, R184). -/
theorem Link.Sound.dropNotice {l : Link} (h : l.Sound) : l.dropNotice.Sound := by
  obtain ⟨hlen, hnodup, hbuf⟩ := h
  refine ⟨?_, hnodup.sublist ((List.tail_sublist _).filterMap _), hbuf⟩
  simp only [Link.dropNotice, List.length_tail]; omega

/-- A count keeps the angle on the circle (01, R1). -/
theorem countedAngle_lt (d : Direction) (angle : Nat) : countedAngle d angle < Config.counts := by
  cases d <;> exact Nat.mod_lt _ (by decide)

/-! ### One rule for each update of the state -/

namespace State.Tabled

variable {s : State}

theorem updTracker (h : s.Tabled) {f : Tracker → Tracker} (ha : (f s.tracker).angle < Config.counts) :
    (s.updTracker f).Tabled :=
  ⟨h.sized, ⟨ha, h.angles.2⟩, h.link⟩

theorem updStore (h : s.Tabled) {f : Store → Store} (hf : (f s.store).blocks.length = 128) : (s.updStore f).Tabled :=
  ⟨⟨h.sized.1, h.sized.2.1, h.sized.2.2.1, hf⟩, h.angles, h.link⟩

theorem updPlayer (h : s.Tabled) (f : Player → Player) : (s.updPlayer f).Tabled := ⟨h.sized, h.angles, h.link⟩

theorem updLists (h : s.Tabled) (f : Lists → Lists) : (s.updLists f).Tabled := ⟨h.sized, h.angles, h.link⟩

theorem updRun (h : s.Tabled) (f : RunControl → RunControl) : (s.updRun f).Tabled := ⟨h.sized, h.angles, h.link⟩

theorem updPermitLine (h : s.Tabled) (f : PermitLine → PermitLine) : (s.updPermitLine f).Tabled :=
  ⟨h.sized, h.angles, h.link⟩

theorem updLink (h : s.Tabled) {f : Link → Link} (hf : (f s.link).Sound) : (s.updLink f).Tabled :=
  ⟨h.sized, h.angles, hf⟩

theorem updChannel (h : s.Tabled) (b : Nat) (f : Channel → Channel) : (s.updChannel b f).Tabled :=
  ⟨⟨by simpa using h.sized.1, h.sized.2⟩, h.angles, h.link⟩

theorem mapChannels (h : s.Tabled) (f : Nat → Channel → Channel) : (s.mapChannels f).Tabled :=
  ⟨⟨by simpa using h.sized.1, h.sized.2⟩, h.angles, h.link⟩

theorem updBlock (h : s.Tabled) (id : Nat) (f : Block → Block) : (s.updBlock id f).Tabled :=
  h.updStore (by simpa using h.sized.2.2.2)

theorem withReferencing (h : s.Tabled) (r : Option Referencing) : State.Tabled { s with referencing := r } :=
  ⟨h.sized, h.angles, h.link⟩

theorem elapse (h : s.Tabled) (dt : Nat) : (s.elapse dt).Tabled := ⟨h.sized, h.angles, h.link⟩

theorem advanceTo (h : s.Tabled) (t : Nat) : (s.advanceTo t).Tabled := ⟨h.sized, h.angles, h.link⟩

theorem draw (h : s.Tabled) : s.draw.Tabled := ⟨h.sized, h.angles, h.link⟩

theorem permitDue (h : s.Tabled) : s.permitDue.Tabled := h.updPermitLine _

theorem notifyTagged (h : s.Tabled) {r : Report} (detail subject : Nat) (tag : Tag)
    (hr : r.isPlain = true := by rfl) : (s.notifyTagged r detail subject tag).Tabled :=
  h.updLink <| h.link.offer fun b hb => by rw [Notice.driveChangeBar_of_isPlain hr] at hb; cases hb

theorem notify (h : s.Tabled) {r : Report} (detail subject : Nat) (hr : r.isPlain = true := by rfl) :
    (s.notify r detail subject).Tabled :=
  h.notifyTagged detail subject _ hr

/-! ### The planner and the reports -/

theorem publish (h : s.Tabled) : s.publish.Tabled := by
  rw [State.publish_frame]; exact ⟨h.sized, h.angles, h.link⟩

theorem replan (h : s.Tabled) : s.replan.Tabled :=
  publish ⟨h.sized, h.angles, h.link⟩

theorem reportInfeasible (h : s.Tabled) (r next : CourseRecord) (c : Ceiling) :
    (s.reportInfeasible r next c).Tabled := by
  unfold State.reportInfeasible
  split
  · split
    · split
      · exact h.notifyTagged _ _ _
      · exact h
    · exact h
  · exact h

theorem giveCeiling (h : s.Tabled) (r next : CourseRecord) : (s.giveCeiling r next).Tabled :=
  (h.updLists _).reportInfeasible r next _

theorem append (h : s.Tabled) (tag : Tag) (origin : Origin) (cap : Option Nat) (laps : List RawLap) :
    (s.append tag origin cap laps).Tabled := by
  unfold State.append
  dsimp only
  split
  · exact (h.updLists _).replan
  · exact ((h.giveCeiling _ _).updLists _).replan

theorem endFollowing (h : s.Tabled) : s.endFollowing.Tabled := h.mapChannels _

theorem notifyJogDone (h : s.Tabled) (b : Nat) (o : JogOutcome) : (s.notifyJogDone b o).Tabled := by
  unfold State.notifyJogDone
  split
  · exact h
  · split
    · exact h.notify _ _
    · exact h.draw.notify _ _

theorem endJog (h : s.Tabled) (b : Nat) (o : JogOutcome) (f : Channel → Channel) : (s.endJog b o f).Tabled := by
  unfold State.endJog
  split
  · exact (h.notifyJogDone b o).updChannel b f
  · exact h

theorem endJogs (h : s.Tabled) (o : JogOutcome) (f : Channel → Channel) : (s.endJogs o f).Tabled := by
  unfold State.endJogs
  induction allBars generalizing s with
  | nil => exact h
  | cons b bs ih => exact ih (h.endJog b o f)

theorem endReferencing (h : s.Tabled) (r : Referencing) : (s.endReferencing r).Tabled :=
  (h.withReferencing none).notify _ _

theorem finishBar (h : s.Tabled) (b : Nat) (o : RefOutcome) : (s.finishBar b o).Tabled := by
  unfold State.finishBar
  split
  · exact h
  · split
    · dsimp only
      split
      · exact h.endReferencing _
      · exact h.withReferencing _
    · exact h

theorem finishRemaining (h : s.Tabled) (o : RefOutcome) (f : Channel → Channel) : (s.finishRemaining o f).Tabled := by
  unfold State.finishRemaining
  split
  · exact h
  · exact (h.mapChannels _).endReferencing _

theorem endMotions (h : s.Tabled) (jo : JogOutcome) (ro : RefOutcome) (fj fr : Channel → Channel) :
    (s.endMotions jo ro fj fr).Tabled := by
  unfold State.endMotions
  split
  · split
    · exact (h.draw.endJogs jo fj).finishRemaining ro fr
    · exact (h.draw.finishRemaining ro fr).endJogs jo fj
  · exact (h.endJogs jo fj).finishRemaining ro fr

theorem failRequest (h : s.Tabled) (cause : Cause) (detail bar : Nat) : (s.failRequest cause detail bar).Tabled :=
  (h.updRun _).notify _ _

theorem failAlignment (h : s.Tabled) (cause : Cause) (detail bar : Nat) : (s.failAlignment cause detail bar).Tabled :=
  (h.mapChannels _).failRequest cause detail bar

theorem coast (h : s.Tabled) : s.coast.Tabled := by
  unfold State.coast
  split
  · exact h.endFollowing
  · exact h

theorem haltOn (h : s.Tabled) (cause : Cause) (detail bar : Nat) (speed : Option Nat) (peak : Nat) :
    (s.haltOn cause detail bar speed peak).Tabled :=
  ((h.updRun _).replan.permitDue.notify _ _).coast

theorem reportWith (h : s.Tabled) (cause : Cause) (detail bar : Nat) (speed : Option Nat) (peak : Nat) :
    (s.reportWith cause detail bar speed peak).Tabled := by
  unfold State.reportWith
  split
  · exact h.haltOn cause detail bar speed peak
  · exact h.notify _ _
  all_goals
    split
    · exact h.failAlignment cause detail bar
    · split
      · exact h.failRequest cause detail bar
      · exact h

theorem report (h : s.Tabled) (cause : Cause) (detail bar : Nat) : (s.report cause detail bar).Tabled :=
  h.reportWith cause detail bar _ _

theorem faultChannel (h : s.Tabled) (b : Nat) (cause : Cause) (detail error : Nat) (compared : Int) :
    (s.faultChannel b cause detail error compared).Tabled := by
  have reported := (((h.notifyJogDone b .fault).updChannel b toFaulted).finishBar b .barFault).report cause detail b
  unfold State.faultChannel
  dsimp only
  split
  · exact reported.notify _ _
  · exact reported

theorem faultUncompared (h : s.Tabled) (b : Nat) (cause : Cause) (detail : Nat) :
    (s.faultUncompared b cause detail).Tabled :=
  h.draw.faultChannel b cause detail 0 _

theorem shaftMoved (h : s.Tabled) : s.shaftMoved.Tabled := by
  have ended := h.endMotions .shaftMoved .shaftMoved (toIdle s.machine) (fun c => toIdle s.machine (unreferenced c))
  unfold State.shaftMoved
  dsimp only
  split
  · exact ended.failAlignment .shaftMoved 0 0
  · exact ended

theorem leaveLocked (h : s.Tabled) : s.leaveLocked.Tabled := (h.updTracker h.angles.1).endFollowing

theorem changeSync (h : s.Tabled) (next : SyncState) {angle : Nat} (ha : angle < Config.counts) (travel : Int)
    (cause : SyncCause) (before : Nat) : (s.changeSync next angle travel cause before).Tabled :=
  (h.updTracker ha).notify _ _

/-! ### The course lists -/

theorem reportUnderrun (h : s.Tabled) : s.reportUnderrun.Tabled := by
  unfold State.reportUnderrun
  split
  · exact h
  · exact (h.updLists _).report .underrun 0 0

theorem reportRunEnd (h : s.Tabled) (detail : Nat) : (s.reportRunEnd detail).Tabled := by
  unfold State.reportRunEnd
  split
  · exact h
  · exact (h.updLists _).notify _ _

theorem reportStarved (h : s.Tabled) : s.reportStarved.Tabled := by
  unfold State.reportStarved
  split
  · exact h
  · exact (h.updLists _).notify _ _

theorem crossForward (h : s.Tabled) : s.crossForward.Tabled := by
  unfold State.crossForward
  dsimp only
  split
  · exact (h.updLists _).replan
  · split
    · exact (h.updLists _).replan
    · split
      · exact (h.updLists _).replan
      · split
        · exact (h.updLists _).replan.reportRunEnd 0x01
        · exact (h.updLists _).replan.reportUnderrun

theorem crossBackward (h : s.Tabled) : s.crossBackward.Tabled := by
  unfold State.crossBackward
  dsimp only
  split
  · exact (h.updLists _).replan
  · split
    · exact (h.updLists _).replan
    · split
      · exact (h.updLists _).replan.report .reverseLimit 0 0
      · exact (h.updLists _).replan

theorem arriveUnderlap (h : s.Tabled) : s.arriveUnderlap.Tabled := by
  unfold State.arriveUnderlap
  split
  · exact h
  · split
    · exact h.updLists _
    · split
      · exact h
      · exact h.reportUnderrun

theorem departUnderlap (h : s.Tabled) : s.departUnderlap.Tabled := h.updLists _

theorem stoppedCheck (h : s.Tabled) : s.stoppedCheck.Tabled := by
  unfold State.stoppedCheck
  split
  · split
    · exact h.reportRunEnd 0x00
    · exact h.reportStarved
  · exact h

theorem clearLists (h : s.Tabled) : s.clearLists.Tabled := (h.updLists _).replan

/-! ### The player -/

theorem updNamed (h : s.Tabled) (table : List SeqStep) (f : Block → Block) : (s.updNamed table f).Tabled :=
  h.updStore (by simpa using h.sized.2.2.2)

theorem unpinOld (h : s.Tabled) (table : Option (List SeqStep)) : (s.unpinOld table).Tabled := by
  cases table with
  | none => exact h
  | some table => exact h.updNamed table _

theorem takeSwitch (h : s.Tabled) (mode : SwitchMode) : (s.takeSwitch mode).Tabled := by
  unfold State.takeSwitch
  split
  · exact h
  · exact ((h.unpinOld _).updPlayer _).notifyTagged _ _ _

theorem feedCourse (h : s.Tabled) (table : List SeqStep) (step : SeqStep) : (s.feedCourse table step).Tabled := by
  have appended (f : Player → Player) (laps : List RawLap) :
      ((s.append s.player.fed (.player s.player.cursor s.player.pass) none laps).updPlayer f).Tabled :=
    (h.append _ _ _ laps).updPlayer f
  unfold State.feedCourse
  dsimp only
  split
  · split
    · exact (appended _ _).takeSwitch _
    · exact appended _ _
  · exact appended _ _

theorem feedOne (h : s.Tabled) : s.feedOne.Tabled := by
  unfold State.feedOne
  split
  · exact h
  · split
    · exact h
    · split
      · exact (h.updPlayer _).notifyTagged _ _ _
      · exact h.feedCourse _ _

theorem feedUpTo (h : s.Tabled) (n : Nat) : (State.feedUpTo n s).Tabled := by
  induction n generalizing s with
  | zero => exact h
  | succ n ih =>
    unfold State.feedUpTo
    split
    · exact ih h.feedOne
    · exact h

theorem feed (h : s.Tabled) : s.feed.Tabled := h.feedUpTo _

theorem endLocate (h : s.Tabled) : s.endLocate.Tabled := by
  unfold State.endLocate
  split
  · exact h
  · exact (((h.advanceTo _).updPlayer _).notifyTagged _ _ _).feed

/-! ### The run controller -/

theorem notifyReached (h : s.Tabled) (before : RunState) (faulted : BarSet) : (s.notifyReached before faulted).Tabled :=
  h.notify _ _

theorem enterHoldFromStandby (h : s.Tabled) : s.enterHoldFromStandby.Tabled :=
  (h.updRun _).replan.permitDue.feed.notifyReached _ _

theorem startAlignment (h : s.Tabled) : s.startAlignment.Tabled := (h.mapChannels _).updRun _

theorem bindOnRun (h : s.Tabled) : s.bindOnRun.Tabled := by
  unfold State.bindOnRun
  split
  · exact h.updLists _
  · exact h

theorem enterRun (h : s.Tabled) : s.enterRun.Tabled :=
  ((((((h.updRun _).bindOnRun.mapChannels _).mapChannels _).replan.permitDue).updRun _).notifyReached _ _).stoppedCheck

theorem enterHold (h : s.Tabled) : s.enterHold.Tabled :=
  (((((h.updRun _).updRun _).updLists _).mapChannels _).replan.permitDue.feed).notifyReached _ _

theorem enterStandby (h : s.Tabled) : s.enterStandby.Tabled :=
  ((((((((h.updRun _).updRun _).endMotions _ _ _ _).mapChannels _).updLists _).clearLists).updPlayer _).permitDue).notifyReached
    _ _

theorem perform (h : s.Tabled) (d : DueStep) : (s.perform d).Tabled := by
  cases d with
  | enterHoldFromStandby => exact h.enterHoldFromStandby
  | alignmentStart => exact h.startAlignment
  | enterRun => exact h.enterRun
  | enterHold => exact h.enterHold
  | enterStandby => exact h.enterStandby

theorem takeDue (h : s.Tabled) : s.takeDue.Tabled := by
  unfold State.takeDue
  split
  · exact h.perform _
  · exact h

theorem settleRun (h : s.Tabled) : s.settleRun.Tabled := h.takeDue.takeDue

theorem takeUp (h : s.Tabled) (t : Target) : (s.takeUp t).Tabled := by
  unfold State.takeUp
  split
  · exact (h.updRun _).publish
  · split
    · exact (h.updRun _).mapChannels _
    · exact h.enterStandby
    · exact (h.updRun _).publish

/-! ### The channels -/

theorem notifyView (h : s.Tabled) (b : Nat) (before : DriveView) : (s.notifyView b before).Tabled := by
  unfold State.notifyView
  dsimp only
  split
  · exact h
  · split
    · exact h
    · exact h.updLink (h.link.offerDriveChange rfl)

theorem judgeMissing (h : s.Tabled) (b : Nat) : (s.judgeMissing b).Tabled := by
  unfold State.judgeMissing
  dsimp only
  split
  · split
    · exact (h.updChannel b _).faultUncompared b .driveLost 0
    · exact (h.updChannel b _).notifyView b _
  · split
    · exact h.updChannel b _
    · exact h

theorem expire (h : s.Tabled) (b : Nat) (e : Expiry) : (s.expire b e).Tabled := by
  cases e with
  | none => exact h
  | enable => exact h.faultUncompared b .driveFault notReadyDetail
  | energize => exact h.updChannel b _
  | hold => exact h.updChannel b _
  | settle => exact h.endJog b _ _

theorem arrive (h : s.Tabled) (b : Nat) (a : Arrival) : (s.arrive b a).Tabled := by
  cases a with
  | none => exact h
  | jog => exact h.updChannel b _
  | zero => exact (h.updChannel b _).finishBar b .found
  | alignment => exact h.updChannel b _

theorem send (h : s.Tabled) (b : Nat) : (s.send b).Tabled := (h.updChannel b _).arrive b _

theorem beginExchange (h : s.Tabled) (b : Nat) : (s.beginExchange b).Tabled :=
  (((h.advanceTo _).judgeMissing b).updChannel b advanceTimers).expire b _

theorem exchangeBar (h : s.Tabled) (b : Nat) : (s.exchangeBar b).Tabled := by
  unfold State.exchangeBar
  split
  · exact h
  · exact (h.beginExchange b).send b

theorem notFound (h : s.Tabled) (b : Nat) : (s.notFound b).Tabled := (h.updChannel b _).finishBar b .notFound

theorem referencingStatus (h : s.Tabled) (b : Nat) (d : DriveStatus) : (s.referencingStatus b d).Tabled := by
  unfold State.referencingStatus
  dsimp only
  split
  · split
    · exact h.updChannel b _
    · split
      · exact h.notFound b
      · exact h
  · split
    · split
      · exact h.updChannel b _
      · exact h.notFound b
    · split
      · exact h.notFound b
      · exact h
  · exact h

theorem joggingStatus (h : s.Tabled) (b : Nat) (d : DriveStatus) : (s.joggingStatus b d).Tabled := by
  unfold State.joggingStatus
  split
  · split
    · exact h.endJog b _ _
    · exact h
  · exact h

theorem goodStatus (h : s.Tabled) (b : Nat) (d : DriveStatus) : (s.goodStatus b d).Tabled := by
  unfold State.goodStatus
  split
  · exact h.updChannel b _
  · exact h.referencingStatus b d
  · exact h.joggingStatus b d
  · exact h

theorem takeStatus (h : s.Tabled) (b : Nat) (d : DriveStatus) : (s.takeStatus b d).Tabled := by
  have taken := h.updChannel b (statusTaken d)
  unfold State.takeStatus
  dsimp only
  split
  · exact h
  · split
    · split
      · exact taken.faultUncompared b .driveFault d.fault
      · split
        · exact taken.faultUncompared b .driveFault notReadyDetail
        · split
          · exact taken.faultChannel b .barFollow 0 _ _
          · exact taken.goodStatus b d
    · exact taken.notifyView b _

theorem receiveStatus (h : s.Tabled) (line : DriveLine) (bytes : List Byte) : (s.receiveStatus line bytes).Tabled := by
  unfold State.receiveStatus
  split
  · split
    · exact h.takeStatus _ _
    · exact h
  · exact h

theorem startReference (h : s.Tabled) (bars : BarSet) (extension : Nat) : (s.startReference bars extension).Tabled :=
  (h.mapChannels _).withReferencing _

theorem expireAllowance (h : s.Tabled) : s.expireAllowance.Tabled := by
  unfold State.expireAllowance
  split
  · exact h
  · exact (h.advanceTo _).finishRemaining .timeout _

/-! ### The tracker -/

theorem closeCourse (h : s.Tabled) : s.closeCourse.Tabled := h.updTracker h.angles.1

theorem listsForward (h : s.Tabled) : s.listsForward.Tabled := by
  unfold State.listsForward
  split
  · exact h.crossForward
  · exact h

theorem crossingReports (h : s.Tabled) : s.crossingReports.Tabled := by
  unfold State.crossingReports
  split
  · dsimp only
    split
    · exact (h.draw.reportWith _ _ _ _ _).listsForward
    · exact h.draw.listsForward.reportWith _ _ _ _ _
  · exact h.listsForward

theorem forwardCrossing (h : s.Tabled) : s.forwardCrossing.Tabled :=
  (h.closeCourse.crossingReports.feed.updRun _).permitDue

theorem backwardCrossing (h : s.Tabled) : s.backwardCrossing.Tabled := by
  have marked := h.updTracker (f := fun t => { t with valid := false, side := some .upper }) h.angles.1
  unfold State.backwardCrossing
  dsimp only
  split
  · exact marked.crossBackward
  · exact marked

theorem underlapArrival (h : s.Tabled) : s.underlapArrival.Tabled := by
  have marked := h.updTracker (f := fun t => { t with side := some .upper }) h.angles.1
  unfold State.underlapArrival
  dsimp only
  split
  · exact marked.arriveUnderlap
  · exact marked

theorem underlapDeparture (h : s.Tabled) : s.underlapDeparture.Tabled := by
  have marked := h.updTracker (f := fun t => { t with side := some .lower }) h.angles.1
  unfold State.underlapDeparture
  dsimp only
  split
  · exact marked.departUnderlap
  · exact marked

theorem raise (h : s.Tabled) (e : Option ShaftEvent) : (s.raise e).Tabled := by
  unfold State.raise
  split
  · exact h.forwardCrossing
  · exact h.backwardCrossing
  · exact h.underlapArrival
  · exact h.underlapDeparture
  · exact h

theorem follow (h : s.Tabled) : s.follow.Tabled := h.mapChannels _

theorem count (h : s.Tabled) (d : Direction) (levels : Levels) : (s.count d levels).Tabled := by
  have hangle := countedAngle_lt d s.tracker.angle
  have taken := h.updTracker (f := fun t => countTracker t d levels s.now) hangle
  unfold State.count
  dsimp only
  generalize hs2 : (if s.tracker.sync = .noSignal then _ else _) = s2
  have h2 : s2.Tabled := by
    rw [← hs2]
    split
    · exact taken.changeSync _ hangle _ _ _
    · exact taken
  generalize hs3 : (if s.tracker.stopped = true then _ else _) = s3
  have h3 : s3.Tabled := by
    rw [← hs3]
    split
    · exact h2.shaftMoved
    · exact h2
  split
  · exact (h3.raise _).follow
  · exact h3

theorem encoderError (h : s.Tabled) : s.encoderError.Tabled := by
  have turned := h.updTracker (f := fun t => { t with levels := ⟨!t.levels.a, !t.levels.b⟩ }) h.angles.1
  unfold State.encoderError
  dsimp only
  generalize hs2 : (if s.tracker.sync = .locked then _ else _) = s2
  have h2 : s2.Tabled := by
    rw [← hs2]
    split
    · exact turned.leaveLocked
    · exact turned
  generalize hs3 : (if s.tracker.sync = .noSignal then _ else _) = s3
  have h3 : s3.Tabled := by
    rw [← hs3]
    split
    · exact h2
    · exact h2.changeSync _ h.angles.1 _ _ _
  exact (h3.report _ _ _).endMotions _ _ _ _

theorem sample (h : s.Tabled) (levels : Levels) : (s.sample levels).Tabled := by
  unfold State.sample
  split
  · exact h
  · exact h.count .forward levels
  · exact h.count .backward levels
  · exact h.encoderError

theorem checkIndex (h : s.Tabled) : s.checkIndex.Tabled := by
  unfold State.checkIndex
  dsimp only
  split
  · split
    · exact (h.updTracker h.angles.1).changeSync _ h.angles.2 _ _ _
    · exact h
  · exact h.updTracker h.angles.2

theorem correct (h : s.Tabled) : s.correct.Tabled := ((h.updTracker h.angles.2).raise _).follow

theorem lockedIndex (h : s.Tabled) : s.lockedIndex.Tabled := by
  unfold State.lockedIndex
  dsimp only
  split
  · exact h
  · split
    · exact h.correct
    · exact (h.leaveLocked.changeSync _ h.angles.2 _ _ _).report _ _ _

theorem arriveIndex (h : s.Tabled) : s.arriveIndex.Tabled := by
  unfold State.arriveIndex
  split
  · exact h
  · exact h.changeSync _ h.angles.2 _ _ _
  · exact h.checkIndex
  · exact h.lockedIndex

theorem goStopped (h : s.Tabled) : s.goStopped.Tabled := by
  have stopped := (h.updTracker (f := fun t => { t with stopped := true }) h.angles.1).stoppedCheck
  unfold State.goStopped
  dsimp only
  split
  · exact stopped.endFollowing
  · exact stopped

theorem detectStop (h : s.Tabled) : s.detectStop.Tabled := by
  unfold State.detectStop
  split
  · exact h
  · exact (h.advanceTo _).goStopped

theorem settingsChanged (h : s.Tabled) (old : MachineRecord) : (s.settingsChanged old).Tabled := by
  unfold State.settingsChanged
  dsimp only
  generalize hs1 : (if old.indexAngle = s.machine.indexAngle then _ else _) = s1
  have h1 : s1.Tabled := by
    rw [← hs1]
    split
    · exact h
    · split
      · exact h.leaveLocked.changeSync _ h.angles.1 _ _ _
      · exact h.changeSync _ h.angles.1 _ _ _
      · exact h
      · exact h
  generalize hs2 : (if (decide (old.ulStart ≠ s.machine.ulStart) && _) = true then _ else _) = s2
  have h2 : s2.Tabled := by
    rw [← hs2]
    split
    · exact h1.updTracker h1.angles.1
    · exact h1
  split
  · exact h2.goStopped
  · exact h2

end State.Tabled

/-! ### What each request does, said once: nothing where it is refused, and one change where it is accepted -/

/-- No check fails exactly when every check holds. -/
theorem firstFalse_eq_none (l : List Bool) (n : Nat) : firstFalse n l = none ↔ ∀ x ∈ l, x = true := by
  induction l generalizing n with
  | nil => simp [firstFalse]
  | cons x xs ih => cases x <;> simp [firstFalse, ih]

/-- A good machine record has its index angle on the circle (02, R20). -/
theorem indexAngle_lt_of_good {m : MachineRecord} (h : badMachineField m = none) : m.indexAngle < Config.counts := by
  have hgood := (firstFalse_eq_none _ 0).mp h (within 0 3999 m.indexAngle) (by simp [machineChecks])
  simp only [within, Bool.and_eq_true, decide_eq_true_eq] at hgood
  exact Nat.lt_succ_of_le hgood.2

namespace State

variable (s : State)

theorem fetchNotice_fst : s.fetchNotice.1 = s ∨ s.fetchNotice.1 = s.updLink Link.dropNotice := by
  unfold fetchNotice
  split
  · exact .inl rfl
  · exact .inr rfl

theorem resetRequest_fst (scope : Nat) :
    (s.resetRequest scope).1 = s ∨ ∃ x, (s.resetRequest scope).1 = s.updLink fun l => { l with resetOwed := some x } := by
  unfold resetRequest
  split
  · exact .inr ⟨_, rfl⟩
  · exact .inr ⟨_, rfl⟩
  · exact .inl rfl

theorem setMachine_fst (m : MachineRecord) :
    (s.setMachine m).1 = s ∨
      badMachineField m = none ∧ (s.setMachine m).1 = State.settingsChanged { s with machine := m } s.machine := by
  unfold setMachine
  split
  · exact .inl rfl
  · split
    · exact .inl rfl
    · exact .inr ⟨‹_›, rfl⟩

theorem setProfile_fst (n : Nat) (p : Profile) :
    (s.setProfile n p).1 = s ∨ (s.setProfile n p).1 = { s with profiles := s.profiles.set n p } := by
  unfold setProfile
  split
  · exact .inl rfl
  · split
    · exact .inl rfl
    · exact .inr rfl

theorem assignBars_fst (es : List AssignEntry) :
    (s.assignBars es).1 = s ∨ (s.assignBars es).1 = s.applyAssignment es := by
  unfold assignBars
  repeat' split
  all_goals simp

theorem defineBlock_fst (id courses : Nat) (bars : List Nat) :
    (s.defineBlock id courses bars).1 = s ∨ (s.defineBlock id courses bars).1 = (s.define id courses bars).1 := by
  unfold defineBlock
  repeat' split
  all_goals simp

theorem blockData_fst (id first : Nat) (cells : List Cell) :
    (s.blockData id first cells).1 = s ∨ (s.blockData id first cells).1 = (s.storeCells id cells).1 := by
  unfold blockData
  dsimp only
  repeat' split
  all_goals simp

theorem dropBlock_fst (id : Nat) : (s.dropBlock id).1 = s ∨ (s.dropBlock id).1 = (s.drop id).1 := by
  unfold dropBlock
  repeat' split
  all_goals simp

theorem blockInfo_fst (id : Nat) : (s.blockInfo id).1 = s := by
  unfold blockInfo
  split <;> rfl

theorem readBlockStart_fst (id course : Nat) :
    (s.readBlockStart id course).1 = s ∨
      ∃ c, (s.readBlockStart id course).1 = s.updStore fun st => { st with readCursor := some c } := by
  unfold readBlockStart
  dsimp only
  repeat' split
  case isFalse.isFalse.isFalse => exact .inr ⟨_, rfl⟩
  all_goals exact .inl rfl

theorem readBlockNext_fst :
    s.readBlockNext.1 = s ∨ ∃ c, s.readBlockNext.1 = s.updStore fun st => { st with readCursor := some c } := by
  unfold readBlockNext
  split
  · exact .inl rfl
  · exact .inr ⟨_, rfl⟩

theorem writeSequence_fst (steps : List SeqStep) :
    (s.writeSequence steps).1 = s ∨ (s.writeSequence steps).1 =
      ((s.unpinOld s.player.pending).pin steps).updPlayer fun p => { p with pending := some steps } := by
  unfold writeSequence
  repeat' split
  all_goals simp

theorem switchNow_fst :
    s.switchNow.1 = s ∨
      s.switchNow.1 = ((s.takeSwitch .now).updPlayer fun p => { p with feedStopped := false }).feed := by
  unfold switchNow
  repeat' split
  all_goals simp

theorem switchSequence_fst (mode : Nat) :
    (s.switchSequence mode).1 = s ∨ (s.switchSequence mode).1 = s.switchNow.1 ∨
      ∃ m, (s.switchSequence mode).1 = (s.switchTimed m).1 := by
  unfold switchSequence
  split
  · exact .inl rfl
  · split
    · exact .inl rfl
    · split
      · exact .inr (.inl rfl)
      · exact .inr (.inr ⟨_, rfl⟩)
      · exact .inr (.inr ⟨_, rfl⟩)

theorem setCursor_fst (c : FeedCursor) :
    (s.setCursor c).1 = s ∨ (s.setCursor c).1 =
      (((s.updPlayer fun p => { p with cursor := c, pass := 0, fed := 0, feedStopped := false }).updLists fun l =>
        { l.closeStream with source := .player }).clearLists).feed := by
  unfold setCursor
  repeat' split
  all_goals simp

theorem locate_fst (c : FeedCursor) (stride : Nat) (ts : List LocateTarget) :
    (s.locate c stride ts).1 = s ∨
      (s.locate c stride ts).1 = s.updPlayer fun p => { p with search := some ⟨c, stride, ts, s.now⟩ } := by
  unfold locate
  repeat' split
  all_goals simp

theorem openStream_fst (first : Tag) (bars : List Nat) :
    (s.openStream first bars).1 = s ∨
      (s.openStream first bars).1 = s.clearLists.updLists fun l => l.openStream first bars := by
  unfold openStream
  repeat' split
  all_goals simp

theorem courses_fst (count : Nat) (bytes : List Byte) :
    (s.courses count bytes).1 = s ∨ ∃ rs, (s.courses count bytes).1 = (takeRecords 0 rs s).1 := by
  unfold courses
  dsimp only
  repeat' split
  case isFalse.isFalse.isFalse.isFalse => exact .inr ⟨_, rfl⟩
  all_goals exact .inl rfl

theorem endStream_fst :
    s.endStream.1 = s ∨ s.endStream.1 = (s.updLists Lists.endStream).stoppedCheck := by
  unfold endStream
  repeat' split
  all_goals simp

theorem flushCourses_fst :
    s.flushCourses.1 = s ∨ s.flushCourses.1 = (s.updLists Lists.flush).replan.stoppedCheck.feed := by
  unfold flushCourses
  repeat' split
  all_goals simp

theorem reference_fst (bars : BarSet) (extension : Nat) :
    (s.reference bars extension).1 = s ∨ (s.reference bars extension).1 = s.startReference bars extension := by
  unfold reference
  repeat' split
  all_goals simp

theorem jog_fst (b target : Nat) :
    (s.jog b target).1 = s ∨ (s.jog b target).1 = s.updChannel b (startJog (s.profile b) (s.jogOf b target)) := by
  unfold jog
  repeat' split
  all_goals simp

theorem setRunState_fst (code : Nat) :
    (s.setRunState code).1 = s ∨ ∃ bad t, (s.setRunState code).1 =
      ((s.updRun fun r => { r with badRequest := bad }).takeUp t).settleRun := by
  unfold setRunState
  split
  · exact .inl rfl
  · split
    · exact .inl rfl
    · split
      · exact .inl rfl
      · split
        · exact .inr ⟨_, _, rfl⟩
        · exact .inr ⟨_, _, rfl⟩

end State

/-- Entries written leave the assignment table its size (02, R28). -/
theorem assignAll_length (table : List (Option Nat)) (es : List AssignEntry) : (assignAll table es).length = table.length := by
  unfold assignAll
  induction es generalizing table with
  | nil => rfl
  | cons e es ih => rw [List.foldl_cons, ih, List.length_set]

/-! ### The requests, the link and the resets -/

namespace State.Tabled

variable {s : State}

theorem fetchNotice (h : s.Tabled) : s.fetchNotice.1.Tabled := by
  rcases s.fetchNotice_fst with e | e <;> rw [e]
  · exact h
  · exact h.updLink h.link.dropNotice

theorem resetRequest (h : s.Tabled) (scope : Nat) : (s.resetRequest scope).1.Tabled := by
  rcases s.resetRequest_fst scope with e | ⟨x, e⟩ <;> rw [e]
  · exact h
  · exact h.updLink h.link

theorem setMachine (h : s.Tabled) (m : MachineRecord) : (s.setMachine m).1.Tabled := by
  rcases s.setMachine_fst m with e | ⟨hgood, e⟩ <;> rw [e]
  · exact h
  · have hin : State.Tabled { s with machine := m } :=
      ⟨h.sized, ⟨h.angles.1, indexAngle_lt_of_good hgood⟩, h.link⟩
    exact hin.settingsChanged s.machine

theorem setProfile (h : s.Tabled) (n : Nat) (p : Profile) : (s.setProfile n p).1.Tabled := by
  rcases s.setProfile_fst n p with e | e <;> rw [e]
  · exact h
  · obtain ⟨hchannels, hassign, hprofiles, hblocks⟩ := h.sized
    exact ⟨⟨hchannels, hassign, by simpa using hprofiles, hblocks⟩, h.angles, h.link⟩

theorem examineStream (h : s.Tabled) : s.examineStream.Tabled := by
  unfold State.examineStream
  split
  · exact h.updLists _
  · exact h

theorem assignBars (h : s.Tabled) (es : List AssignEntry) : (s.assignBars es).1.Tabled := by
  rcases s.assignBars_fst es with e | e <;> rw [e]
  · exact h
  · obtain ⟨hchannels, hassign, hprofiles, hblocks⟩ := h.sized
    have hin : State.Tabled { s with assign := assignAll s.assign es } :=
      ⟨⟨hchannels, (assignAll_length _ es).trans hassign, hprofiles, hblocks⟩, h.angles, h.link⟩
    exact (hin.mapChannels _).examineStream

theorem defineBlock (h : s.Tabled) (id courses : Nat) (bars : List Nat) : (s.defineBlock id courses bars).1.Tabled := by
  rcases s.defineBlock_fst id courses bars with e | e <;> rw [e]
  · exact h
  · have defined := h.updBlock id fun _ => definedBlock courses bars
    exact defined.updStore (f := fun st => { st with free := st.free - courses * bars.length }) defined.sized.2.2.2

theorem joinChecks (h : s.Tabled) (id : Nat) : (s.joinChecks id).Tabled :=
  (h.updBlock id _).updStore (h.updBlock id _).sized.2.2.2

theorem blockData (h : s.Tabled) (id first : Nat) (cells : List Cell) : (s.blockData id first cells).1.Tabled := by
  rcases s.blockData_fst id first cells with e | e <;> rw [e]
  · exact h
  · unfold State.storeCells
    dsimp only
    split
    · exact (h.updBlock id _).joinChecks id
    · exact h.updBlock id _

theorem nextCheck (h : s.Tabled) : s.nextCheck.Tabled := h.updStore h.sized.2.2.2

theorem completeCheck (h : s.Tabled) : s.completeCheck.Tabled := by
  unfold State.completeCheck
  split
  · exact h
  · exact ((h.advanceTo _).updBlock _ _).nextCheck.notifyTagged _ _ _

theorem leaveChecks (h : s.Tabled) (id : Nat) : (s.leaveChecks id).Tabled := by
  unfold State.leaveChecks
  split
  · exact h.nextCheck
  · exact h.updStore h.sized.2.2.2

theorem dropBlock (h : s.Tabled) (id : Nat) : (s.dropBlock id).1.Tabled := by
  rcases s.dropBlock_fst id with e | e <;> rw [e]
  · exact h
  · have emptied := (h.leaveChecks id).updBlock id fun _ => Block.vacant
    exact emptied.updStore (f := fun st => { st.clearCursor id with free := st.free + cellCount (s.block id) })
      emptied.sized.2.2.2

theorem readBlockStart (h : s.Tabled) (id course : Nat) : (s.readBlockStart id course).1.Tabled := by
  rcases s.readBlockStart_fst id course with e | ⟨c, e⟩ <;> rw [e]
  · exact h
  · exact h.updStore h.sized.2.2.2

theorem readBlockNext (h : s.Tabled) : s.readBlockNext.1.Tabled := by
  rcases s.readBlockNext_fst with e | ⟨c, e⟩ <;> rw [e]
  · exact h
  · exact h.updStore h.sized.2.2.2

theorem writeSequence (h : s.Tabled) (steps : List SeqStep) : (s.writeSequence steps).1.Tabled := by
  rcases s.writeSequence_fst steps with e | e <;> rw [e]
  · exact h
  · exact ((h.unpinOld _).updNamed steps _).updPlayer _

theorem switchNow (h : s.Tabled) : s.switchNow.1.Tabled := by
  rcases s.switchNow_fst with e | e <;> rw [e]
  · exact h
  · exact ((h.takeSwitch _).updPlayer _).feed

theorem switchTimed (h : s.Tabled) (mode : SwitchMode) : (s.switchTimed mode).1.Tabled := by
  unfold State.switchTimed
  split
  · exact (h.takeSwitch mode).feed
  · exact h.updPlayer fun p => { p with recorded := some mode }

theorem switchSequence (h : s.Tabled) (mode : Nat) : (s.switchSequence mode).1.Tabled := by
  rcases s.switchSequence_fst mode with e | e | ⟨m, e⟩ <;> rw [e]
  · exact h
  · exact h.switchNow
  · exact h.switchTimed m

theorem setCursor (h : s.Tabled) (c : FeedCursor) : (s.setCursor c).1.Tabled := by
  rcases s.setCursor_fst c with e | e <;> rw [e]
  · exact h
  · exact ((h.updPlayer _).updLists _).clearLists.feed

theorem locate (h : s.Tabled) (c : FeedCursor) (stride : Nat) (ts : List LocateTarget) :
    (s.locate c stride ts).1.Tabled := by
  rcases s.locate_fst c stride ts with e | e <;> rw [e]
  · exact h
  · exact h.updPlayer _

theorem openStream (h : s.Tabled) (first : Tag) (bars : List Nat) : (s.openStream first bars).1.Tabled := by
  rcases s.openStream_fst first bars with e | e <;> rw [e]
  · exact h
  · exact h.clearLists.updLists _

theorem takeRecords (h : s.Tabled) (n : Nat) (rs : List SentRecord) : (takeRecords n rs s).1.Tabled := by
  induction rs generalizing n s with
  | nil => exact h
  | cons r rs ih =>
    unfold Machine.takeRecords
    split
    · exact h
    · exact ih ((h.append _ _ _ _).updLists _) (n + 1)

theorem courses (h : s.Tabled) (count : Nat) (bytes : List Byte) : (s.courses count bytes).1.Tabled := by
  rcases s.courses_fst count bytes with e | ⟨rs, e⟩ <;> rw [e]
  · exact h
  · exact h.takeRecords 0 rs

theorem endStream (h : s.Tabled) : s.endStream.1.Tabled := by
  rcases s.endStream_fst with e | e <;> rw [e]
  · exact h
  · exact (h.updLists _).stoppedCheck

theorem flushCourses (h : s.Tabled) : s.flushCourses.1.Tabled := by
  rcases s.flushCourses_fst with e | e <;> rw [e]
  · exact h
  · exact (h.updLists _).replan.stoppedCheck.feed

theorem reference (h : s.Tabled) (bars : BarSet) (extension : Nat) : (s.reference bars extension).1.Tabled := by
  rcases s.reference_fst bars extension with e | e <;> rw [e]
  · exact h
  · exact h.startReference bars extension

theorem jog (h : s.Tabled) (b target : Nat) : (s.jog b target).1.Tabled := by
  rcases s.jog_fst b target with e | e <;> rw [e]
  · exact h
  · exact h.updChannel b _

theorem setRunState (h : s.Tabled) (code : Nat) : (s.setRunState code).1.Tabled := by
  rcases s.setRunState_fst code with e | ⟨bad, t, e⟩ <;> rw [e]
  · exact h
  · exact ((h.updRun _).takeUp t).settleRun

/-- Whatever a request comes to, its owner keeps the tables. -/
theorem handle (h : s.Tabled) (r : Request) : (s.handle r).1.Tabled := by
  cases r with
  | fetchNotice => exact h.fetchNotice
  | reset scope => exact h.resetRequest scope
  | setMachine m => exact h.setMachine m
  | setProfile n p => exact h.setProfile n p
  | assignBars es => exact h.assignBars es
  | defineBlock id courses bars => exact h.defineBlock id courses bars
  | blockData id first cells => exact h.blockData id first cells
  | dropBlock id => exact h.dropBlock id
  | blockInfo id => exact (s.blockInfo_fst id).symm ▸ h
  | readBlockStart id course => exact h.readBlockStart id course
  | readBlockNext => exact h.readBlockNext
  | writeSequence steps => exact h.writeSequence steps
  | switchSequence mode => exact h.switchSequence mode
  | setCursor place => exact h.setCursor place
  | locate start stride targets => exact h.locate start stride targets
  | openStream first bars => exact h.openStream first bars
  | courses count records => exact h.courses count records
  | endStream => exact h.endStream
  | flushCourses => exact h.flushCourses
  | reference bars ext => exact h.reference bars ext
  | jog bar target => exact h.jog bar target
  | setRunState target => exact h.setRunState target
  | ident | status | readSettings | getPosition | planReport | unknown _ | badLength _ => exact h

theorem sendReply (h : s.Tabled) (r : ReplyFrame) : (s.sendReply r).Tabled := h.updLink h.link

theorem answer (h : s.Tabled) (w : Waiting) : (s.answer w).Tabled :=
  (h.handle w.request).settleRun.sendReply _

theorem serve (h : s.Tabled) : s.serve.Tabled := by
  unfold State.serve
  split
  · exact h.answer _
  · exact h

/-- A request takes a free place of the buffer, or is discarded with a notice (10, R177). -/
theorem offerRequest (h : s.Tabled) (tag : Tag) (r : Request) : (s.offerRequest tag r).Tabled := by
  unfold State.offerRequest
  split
  next hroom =>
    obtain ⟨hlen, hnodup, -⟩ := h.link
    exact (h.updLink ⟨hlen, hnodup, by simpa using hroom⟩).serve
  next => exact h.notify _ _

theorem hunt (h : s.Tabled) : s.hunt.Tabled := h.updLink h.link

theorem request (h : s.Tabled) (tag : Tag) (r : Request) : (s.request tag r).Tabled := by
  unfold State.request
  split
  · exact h.hunt.offerRequest tag r
  · exact h

theorem freePlace (h : s.Tabled) : s.freePlace.Tabled := by
  obtain ⟨hlen, hnodup, hbuf⟩ := h.link
  exact (h.advanceTo _).updLink ⟨hlen, hnodup, by simp only [State.advanceTo_link, List.length_tail]; omega⟩

theorem replySent (h : s.Tabled) : s.replySent.Tabled := by
  unfold State.replySent
  split
  · exact h.freePlace.serve
  · exact h

theorem completeFrame (h : s.Tabled) (bytes : List Byte) : (s.completeFrame bytes).Tabled := by
  unfold State.completeFrame
  split
  · exact h.hunt.offerRequest _ _
  · exact h.hunt

theorem takeByte (h : s.Tabled) (v : Byte) : (s.takeByte v).Tabled := by
  have received (f : Link → Receiver) : (s.updLink fun l => { l with rx := f l }).Tabled := h.updLink h.link
  unfold State.takeByte
  dsimp only
  split
  · split
    · exact received _
    · exact h
  · split
    · exact received _
    · split
      · exact received _
      · exact h.hunt
  · split
    · exact received _
    · exact received _
  · split
    · exact received _
    · exact h.completeFrame _

theorem receiveByte (h : s.Tabled) (v : Byte) (stopHigh : Bool) : (s.receiveByte v stopHigh).Tabled := by
  unfold State.receiveByte
  split
  · exact h
  · dsimp only
    generalize hs1 : (if s.gapTooLong = true then s.hunt else s) = s1
    have h1 : s1.Tabled := by
      rw [← hs1]
      split
      · exact h.hunt
      · exact h
    split
    · exact h1.takeByte v
    · exact h1.hunt

theorem gapTimeout (h : s.Tabled) : s.gapTimeout.Tabled := by
  unfold State.gapTimeout
  split
  · exact h
  · exact (h.advanceTo _).hunt

theorem permitFrame (h : s.Tabled) : s.permitFrame.Tabled := by
  unfold State.permitFrame
  split
  · exact (h.advanceTo _).updPermitLine _
  · exact h

theorem firstPermit (h : s.Tabled) : s.firstPermit.Tabled := by
  rw [State.firstPermit_frame]; exact ⟨h.sized, h.angles, h.link⟩

/-- Every block in its power-on state has its tables in order, whatever stood before. -/
theorem cleared (s : State) (power : Power) (cause : ResetCause) (line : PermitLine) (rate : Nat) :
    (s.cleared power cause line rate).Tabled :=
  ⟨⟨List.length_replicate, List.length_replicate, List.length_replicate, List.length_replicate⟩,
    ⟨Nat.zero_lt_succ _, Nat.zero_lt_succ _⟩, Nat.zero_le _, List.nodup_nil, Nat.zero_le _⟩

theorem pinHeld (s : State) : s.pinHeld.Tabled := by
  unfold State.pinHeld
  split <;> exact cleared s _ _ _ _

theorem release (h : s.Tabled) (levels : Levels) : (s.release levels).Tabled := by
  unfold State.release
  split
  · exact ⟨h.sized, ⟨Nat.zero_lt_succ _, h.angles.2⟩, h.link⟩
  · exact h

theorem endStartUp (h : s.Tabled) : s.endStartUp.Tabled := by
  unfold State.endStartUp
  split
  · exact ⟨h.sized, h.angles, h.link⟩
  · exact h

theorem resetAnswered (h : s.Tabled) : s.resetAnswered.Tabled := by
  unfold State.resetAnswered
  split
  · exact h.freePlace.updLink h.freePlace.link
  · exact h.updLink h.link

theorem motionCleared (h : s.Tabled) : s.motionCleared.Tabled :=
  ⟨(h.mapChannels s.motionChannel).sized, h.angles, h.link⟩

theorem takeOwed (h : s.Tabled) : s.takeOwed.Tabled := by
  unfold State.takeOwed
  split
  · exact h.resetAnswered.motionCleared.firstPermit.serve
  · exact (cleared _ _ _ _ _).firstPermit
  · exact h

theorem dueReset (h : s.Tabled) : s.dueReset.Tabled := by
  unfold State.dueReset
  split
  · exact h.takeOwed
  · exact h

/-! ### The commands -/

/-- An event that keeps the tables keeps them with what comes due before it. -/
theorem after (h : s.Tabled) (dt : Nat) {f : State → State} (hf : ∀ u : State, u.Tabled → (f u).Tabled) :
    (s.after dt f).Tabled := by
  unfold State.after
  split
  · exact h.elapse dt
  · exact hf _ (h.settleRun.dueReset.elapse dt)

theorem goesOn (h : s.Tabled) {f : State → State} {t : State} (hf : ∀ u : State, u.Tabled → (f u).Tabled)
    (ht : s.goesOn f = .next t) : t.Tabled := by
  cases ht
  exact h.after 0 hf

theorem onBar (h : s.Tabled) {b : Nat} {f : State → State} {t : State} (hf : ∀ u : State, u.Tabled → (f u).Tabled)
    (ht : s.onBar b f = .next t) : t.Tabled := by
  unfold State.onBar at ht
  split at ht
  · exact h.goesOn hf ht
  · cases ht

theorem exchangeWhen (h : s.Tabled) {b : Nat} {holds : State → Bool} {t : State}
    (ht : s.exchangeWhen b holds = .next t) : t.Tabled := by
  refine h.onBar (fun u hu => ?_) ht
  split
  · exact hu.exchangeBar b
  · exact hu

theorem ownStep (h : s.Tabled) (d : DueStep) : (s.ownStep d).Tabled := by
  unfold State.ownStep
  split
  · exact h.perform d
  · exact h

theorem ownReset (h : s.Tabled) (scope : Scope) : (s.ownReset scope).Tabled := by
  unfold State.ownReset
  split
  · exact h.settleRun.takeOwed
  · exact h

end State.Tabled

/-- A request command is the event that its request completes at the port (10, R177). -/
theorem exec_of_requestOf {c : Instr} {w : Waiting} (hc : requestOf c = some w) (s : State) :
    exec c s = s.goesOn fun u => u.request w.tag w.request := by
  cases c <;> cases hc <;> rfl

/-- Every command keeps the tables. -/
theorem State.Tabled.exec {s t : State} (h : s.Tabled) {c : Instr} (ht : exec c s = .next t) : t.Tabled := by
  cases hc : requestOf c with
  | some w => exact h.goesOn (fun u hu => hu.request _ _) ((exec_of_requestOf hc s).symm.trans ht)
  | none =>
    cases c with
    | motionReset => cases ht; exact h.ownReset .motion
    | fullReset => cases ht; exact h.ownReset .full
    | checkComplete => exact h.goesOn (fun u hu => hu.completeCheck) ht
    | locateDone => exact h.goesOn (fun u hu => hu.endLocate) ht
    | byteReceived v stopHigh dt => cases ht; exact h.after dt fun u hu => hu.receiveByte v stopHigh
    | frameGapTimeout => exact h.goesOn (fun u hu => hu.gapTimeout) ht
    | replySent => exact h.goesOn (fun u hu => hu.replySent) ht
    | encoderCount levels dt => cases ht; exact h.after dt fun u hu => hu.sample levels
    | encoderError dt => cases ht; exact h.after dt fun u hu => hu.encoderError
    | indexArrival dt => cases ht; exact h.after dt fun u hu => hu.arriveIndex
    | stopDetect => exact h.goesOn (fun u hu => hu.detectStop) ht
    | exchange b => exact h.onBar (fun u hu => hu.exchangeBar b) ht
    | statusFrame line bytes => exact h.goesOn (fun u hu => hu.receiveStatus line bytes) ht
    | driveLost | enableTimeout | energizeTimeEnd | holdDelayExpiry | jogTargetReached | settleTimeout | zeroMoveComplete
    | aligned => exact h.exchangeWhen ht
    | allowanceTimeout => exact h.goesOn (fun u hu => hu.expireAllowance) ht
    | enterHoldFromStandby => cases ht; exact h.ownStep .enterHoldFromStandby
    | alignmentStart => cases ht; exact h.ownStep .alignmentStart
    | enterRun => cases ht; exact h.ownStep .enterRun
    | enterHold => cases ht; exact h.ownStep .enterHold
    | enterStandby => cases ht; exact h.ownStep .enterStandby
    | permitFrame => exact h.goesOn (fun u hu => hu.permitFrame) ht
    | powerOn rate1 rate0 => cases ht; exact State.Tabled.cleared s _ _ _ _
    | pinReset => cases ht; exact State.Tabled.pinHeld s
    | resetRelease levels => cases ht; exact h.release levels
    | startUpEnd => cases ht; exact h.endStartUp
    | _ => cases hc

/-- Every step keeps the tables: the command at the front runs, or 1 us passes. -/
theorem State.Tabled.step {s t : State} (h : s.Tabled) (ht : step s = .next t) : t.Tabled := by
  unfold Machine.step at ht
  split at ht
  · cases ht; exact h.elapse 1
  next c rest _ =>
    have hrest : State.Tabled { s with pending := rest } := ⟨h.sized, h.angles, h.link⟩
    exact hrest.exec ht

/-- Settles O56: each operation of the model keeps `State.Tabled`, and so every command and every step does. -/
theorem everyStepKeepsTheTables : Obligations.EveryStepKeepsTheTables := by
  intro s t ht hsized hangles hnotices hbuffer
  exact t.tabled_iff.mp <| ((s.tabled_iff).mpr ⟨hsized, hangles, hnotices, hbuffer⟩).step ht

end Sys2Proof.Machine
end

section
/-! PROOF. The state after reset: the values that the manual gives, and every invariant. -/

namespace Sys2Proof.Machine

namespace State

/-! ### The tables after reset, entry by entry -/

/-- Every bar is ABSENT after reset (02, R32). -/
@[simp] theorem reset_assigned (b : Nat) : State.reset.assigned b = false := by
  simp only [assigned, profileNumber, State.reset, List.getD, List.getElem?_replicate]
  split <;> rfl

/-- Every block is EMPTY after reset (03, R50). -/
@[simp] theorem reset_block (id : Nat) : State.reset.block id = Block.vacant := by
  simp only [block, State.reset, Store.initial, List.getD, List.getElem?_replicate]
  split <;> rfl

/-- Every channel is in its power-on state after reset (07, R137). -/
@[simp] theorem reset_channel (b : Nat) : State.reset.channel b = Channel.initial := by
  simp only [channel, State.reset, List.getD, List.getElem?_replicate]
  split <;> rfl

/-! ### The invariants after reset -/

theorem reset_tabled : State.reset.Tabled :=
  ⟨⟨List.length_replicate, List.length_replicate, List.length_replicate, List.length_replicate⟩,
    ⟨Nat.zero_lt_succ _, Nat.zero_lt_succ _⟩, Nat.zero_le _, List.nodup_nil, Nat.zero_le _⟩

/-- Nothing is requested in STANDBY (09, R174). -/
theorem reset_requestSound : State.reset.RequestSound := by decide

/-- The permit is 0 after reset (09, R174). -/
theorem reset_permitSound : State.reset.PermitSound := fun _ => rfl

/-- The lists are empty after reset (05, R95). -/
theorem reset_listsSound : State.reset.ListsSound :=
  ⟨Nat.zero_le _, Nat.zero_le _, fun _ => ⟨rfl, rfl, rfl⟩⟩

/-- Every cell is free after reset, and nothing is checked (03, R50). -/
theorem reset_storeSound : State.reset.StoreSound := by
  refine ⟨?_, List.nodup_nil, fun id hid => absurd hid List.not_mem_nil⟩
  simp [State.reset, Store.initial, heldCells, Block.vacant]

/-- STOP is active after reset (09, R153). -/
theorem reset_standing : State.reset.Standing := fun _ => ⟨rfl, rfl⟩

end State

/-- Settles O3: the table entries by the lemmas above, every other value as `State.reset` writes it. -/
theorem resetHoldsTheManualsValues : Obligations.ResetHoldsTheManualsValues := by
  unfold Obligations.ResetHoldsTheManualsValues
  have hassigned : ∀ b, State.reset.assigned b = false := State.reset_assigned
  have hblock : ∀ id, (State.reset.block id).state = .empty := fun id => by rw [State.reset_block]; rfl
  have hchannel : ∀ b, (State.reset.channel b).state = .absent := fun b => by rw [State.reset_channel]; rfl
  exact ⟨rfl, rfl, rfl, rfl, rfl, rfl, rfl, rfl, hassigned, hblock, rfl, rfl, rfl, rfl, rfl, rfl, rfl, rfl, rfl, hchannel,
    rfl, rfl, rfl, rfl, rfl, rfl, rfl, rfl, rfl, rfl⟩

/-- Settles O55: one lemma for each invariant. -/
theorem resetIsSound : Obligations.ResetIsSound := by
  obtain ⟨hsized, hangles, hnotices, hbuffer⟩ := State.reset.tabled_iff.mp State.reset_tabled
  exact ⟨hsized, hangles, hnotices, hbuffer, State.reset_requestSound, State.reset_permitSound, State.reset_listsSound,
    State.reset_storeSound, State.reset_standing⟩

end Sys2Proof.Machine
end

section
/-! PROOF. STOP_DETECT (01, R15; 05, R82; 07, R136): the stopped check and the coasting channels, case by case. -/

namespace Sys2Proof.Machine

/-! ### Channels that a step changes wherever they stand -/

/-- Each channel after every channel was changed, when the change leaves the channel that no table holds. -/
theorem State.channel_mapChannels_of_initial {s : State} {b : Nat} (hb : barExists b = true) {f : Nat → Channel → Channel}
    (hf : f b Channel.initial = Channel.initial) : (s.mapChannels f).channel b = f b (s.channel b) := by
  have hplace : 1 + (b - 1) = b := by simp [barExists] at hb; omega
  simp only [State.channel, State.mapChannels, List.getD, mapFrom_getElem?, hplace]
  cases s.channels[b - 1]? with
  | none => exact hf.symm
  | some c => rfl

@[simp] theorem toIdle_jog (m : MachineRecord) (c : Channel) : (toIdle m c).jog = none := rfl

/-- A channel at rest in the statements' terms is one gone to IDLE (07, R115, R128). -/
theorem toIdle_eq_rested (m : MachineRecord) (c : Channel) : toIdle m c = c.rested m := rfl

/-- FOLLOWING channels go to IDLE, and no other channel changes (07, R125, R136). -/
theorem State.channel_endFollowing {s : State} {b : Nat} (hb : barExists b = true) :
    s.endFollowing.channel b = if (s.channel b).state = .following then toIdle s.machine (s.channel b) else s.channel b :=
  State.channel_mapChannels_of_initial hb rfl

/-! ### The stopped check (05, R82) -/

theorem State.stoppedCheck_of_ne_run {s : State} (h : s.run.state ≠ .run) : s.stoppedCheck = s := by
  simp [State.stoppedCheck, h]

theorem State.stoppedCheck_of_successor {s : State} (h : s.lists.successor.isSome = true) : s.stoppedCheck = s := by
  have hn : s.lists.successor.isNone = false := by simp [Option.isNone_eq_false_iff, h]
  simp [State.stoppedCheck, hn]

/-- A shaft that stands in LOCKED below ul_start on its last record, which has no end mark, starves. -/
theorem State.stoppedCheck_starves {s : State} {c : CourseRecord} (hrun : s.run.state = .run)
    (hstopped : s.tracker.stopped = true) (hsync : s.tracker.sync = .locked) (hangle : s.tracker.angle < s.machine.ulStart)
    (hstep : s.lists.inStep = true) (hcurrent : s.lists.current = some c) (hnext : s.lists.successor = none)
    (hend : c.endMark = false) : s.stoppedCheck = s.reportStarved := by
  simp [State.stoppedCheck, hrun, hstopped, hsync, hangle, hstep, hcurrent, hnext, Lists.atEnd, hend]

/-! ### The command -/

theorem State.goStopped_of_ne_halt {s : State} (h : s.run.state ≠ .halt) :
    s.goStopped = (s.updTracker fun t => { t with stopped := true }).stoppedCheck := by
  simp [State.goStopped, h]

theorem State.goStopped_of_halt {s : State} (h : s.run.state = .halt) :
    s.goStopped = (s.updTracker fun t => { t with stopped := true }).endFollowing := by
  have hrun : (s.updTracker fun t => { t with stopped := true }).run.state ≠ .run := by simp [h]
  simp [State.goStopped, State.stoppedCheck_of_ne_run hrun, h]

theorem exec_stopDetect {s : State} (hq : s.Quiet) : exec .stopDetect s = .next s.detectStop :=
  congrArg Host.Outcome.next (State.event_of_quiet hq _)

/-- Settles O54: the clock moves on to the end of the stop timer, and the run state says what the STOPPED shaft brings about. -/
theorem theStopTimerStopsTheShaft : Obligations.TheStopTimerStopsTheShaft := by
  intro s hq stopped
  rw [exec_stopDetect hq]
  refine ⟨fun hstands => by rw [State.detectStop, if_pos hstands], fun hmoves => ?_⟩
  have hdetect : s.detectStop = (s.advanceTo s.stopDue).goStopped := by simp [State.detectStop, hmoves]
  have hdriven (h : s.run.state ≠ .halt) : s.detectStop = stopped.stoppedCheck :=
    hdetect.trans (State.goStopped_of_ne_halt h)
  have hcoasting (h : s.run.state = .halt) : s.detectStop = stopped.endFollowing :=
    hdetect.trans (State.goStopped_of_halt h)
  refine ⟨fun hcalm => ?_, fun c hrun hsync hangle hstep hcurrent hnext hend hmark => ?_, fun hhalt => ?_⟩
  · have hcheck : stopped.stoppedCheck = stopped := by
      rcases hcalm with h | h | ⟨-, h⟩
      · exact State.stoppedCheck_of_ne_run (by simp [stopped, h])
      · exact State.stoppedCheck_of_ne_run (by simp [stopped, h])
      · exact State.stoppedCheck_of_successor h
    have hne : s.run.state ≠ .halt := by rcases hcalm with h | h | ⟨h, -⟩ <;> simp [h]
    rw [hdriven hne, hcheck]
  · have hne : s.run.state ≠ .halt := by simp [hrun]
    rw [hdriven hne,
      State.stoppedCheck_starves (s := stopped) hrun rfl hsync hangle hstep hcurrent hnext hend, State.reportStarved,
      if_neg (by simp [stopped, hmark])]
    rfl
  · rw [hcoasting hhalt]
    refine ⟨_, rfl, rfl, fun b hb => ?_⟩
    have hb' : stopped.channel b = s.channel b := rfl
    rw [State.channel_endFollowing hb, hb']
    split
    · exact ⟨rfl, rfl, rfl⟩
    · rfl

end Sys2Proof.Machine
end

section
/-! PROOF. The events of the shaft (01, R12, R13; 05, R76 to R83; 09, R166 to R169): what each operation on the way does, said once,
and that the model's four events are those that the statements describe. -/

namespace Sys2Proof.Machine

/-! ### Which event a motion of the angle raises (01, R10, R12, R13) -/

theorem eventOf_forward_wrap {m : MachineRecord} {angle n : Nat} (h : 4000 ≤ angle + n) :
    eventOf m .forward angle n = some .forwardCrossing :=
  if_pos h

theorem eventOf_forward_underlap {m : MachineRecord} {angle n : Nat} (hwrap : angle + n < 4000) (hbelow : angle < m.ulStart)
    (hreach : m.ulStart ≤ angle + n) : eventOf m .forward angle n = some .underlapArrival := by
  simp [eventOf, Config.counts, Nat.not_le.mpr hwrap, hbelow, hreach]

theorem eventOf_forward_none {m : MachineRecord} {angle n : Nat} (hwrap : angle + n < 4000)
    (h : m.ulStart ≤ angle ∨ angle + n < m.ulStart) : eventOf m .forward angle n = none := by
  have hpass : ¬(angle < m.ulStart ∧ m.ulStart ≤ angle + n) := by omega
  simpa [eventOf, Config.counts, Nat.not_le.mpr hwrap] using hpass

theorem eventOf_backward_wrap {m : MachineRecord} {angle n : Nat} (h : angle < n) :
    eventOf m .backward angle n = some .backwardCrossing :=
  if_pos h

theorem eventOf_backward_underlap {m : MachineRecord} {angle n : Nat} (hwrap : n ≤ angle) (habove : m.ulStart ≤ angle)
    (hreach : angle - n < m.ulStart) : eventOf m .backward angle n = some .underlapDeparture := by
  simp [eventOf, Nat.not_lt.mpr hwrap, habove, hreach]

theorem eventOf_backward_none {m : MachineRecord} {angle n : Nat} (hwrap : n ≤ angle)
    (h : angle < m.ulStart ∨ m.ulStart ≤ angle - n) : eventOf m .backward angle n = none := by
  have hpass : ¬(m.ulStart ≤ angle ∧ angle - n < m.ulStart) := by omega
  simpa [eventOf, Nat.not_lt.mpr hwrap] using hpass

/-! ### The tracker through an event -/

/-- The tracker as an event leaves it: the side, and at a crossing the measurement of the course (01, R12, R13, R16). -/
def Tracker.passing (k : Tracker) (now : Nat) : Option ShaftEvent → Tracker
  | some .forwardCrossing =>
    { k with speed := courseSpeed k now, courseStart := some now, valid := true, side := some .lower }
  | some .backwardCrossing => { k with valid := false, side := some .upper }
  | some .underlapArrival => { k with side := some .upper }
  | some .underlapDeparture => { k with side := some .lower }
  | none => k

theorem Tracker.passing_frame (k : Tracker) (now : Nat) (e : Option ShaftEvent) :
    k.passing now e = { k with
      speed := (k.passing now e).speed, courseStart := (k.passing now e).courseStart, valid := (k.passing now e).valid
      side := (k.passing now e).side } := by
  rcases e with _ | (_ | _ | _ | _) <;> rfl

/-- An event changes the tracker as `Tracker.passing` says, and the lists and reports that follow leave it. -/
theorem State.raise_tracker (s : State) (e : Option ShaftEvent) : (s.raise e).tracker = s.tracker.passing s.now e := by
  cases e with
  | none => rfl
  | some e =>
    cases e with
    | forwardCrossing => simp [State.raise, State.forwardCrossing, State.closeCourse, Tracker.passing]
    | backwardCrossing =>
      simp only [State.raise, State.backwardCrossing]
      split <;> simp [Tracker.passing]
    | underlapArrival =>
      simp only [State.raise, State.underlapArrival]
      split <;> simp [Tracker.passing]
    | underlapDeparture =>
      simp only [State.raise, State.underlapDeparture]
      split <;> simp [Tracker.passing]

/-! ### Causes reported to the run controller (09, R166, R167) -/

theorem State.reportWith_of_run {s : State} (h : s.run.state = .run) (cause : Cause) (detail bar : Nat)
    (speed : Option Nat) (peak : Nat) :
    s.reportWith cause detail bar speed peak = s.haltOn cause detail bar speed peak := by
  simp [State.reportWith, h]

theorem State.reportWith_of_halt {s : State} (h : s.run.state = .halt) (cause : Cause) (detail bar : Nat)
    (speed : Option Nat) (peak : Nat) :
    s.reportWith cause detail bar speed peak =
      s.notify (.furtherFault detail speed peak s.run.requested) (causeCode cause) bar := by
  simp [State.reportWith, h]

/-- A cause that no channel raised does nothing in STANDBY and HOLD while nothing changes. -/
theorem State.report_of_unchanging {s : State} (h : s.run.state = .standby ∨ s.run.state = .hold)
    (hc : s.run.changing = false) {cause : Cause} (hcause : cause.ofChannel = false) (detail bar : Nat) :
    s.report cause detail bar = s := by
  rcases h with h | h <;> simp [State.report, State.reportWith, h, State.aligningToRun, hc, hcause]

/-- A halt sets HALT, the record and a permit of 0, and leaves the rest of the run controller (09, R167). -/
theorem State.haltOn_run (s : State) (cause : Cause) (detail bar : Nat) (speed : Option Nat) (peak : Nat) :
    (s.haltOn cause detail bar speed peak).run = { s.run with
      state := .halt, published := 0
      halt := some ⟨cause, detail, bar, s.currentTag, s.tracker.angle, s.tracker.speed⟩ } := by
  have hzero : ∀ u : State, u.run.state = .halt → u.publish.run = { u.run with published := 0 } := fun u hu => by
    rw [State.publish_zero (by simp [State.permitToPublish, hu])]
  simp [State.haltOn, State.replan, hzero]

theorem State.haltOn_link (s : State) (cause : Cause) (detail bar : Nat) (speed : Option Nat) (peak : Nat) :
    (s.haltOn cause detail bar speed peak).link = s.link.offer
      ⟨.halted detail speed peak s.run.requested, causeCode cause, bar, s.currentTag, s.tracker.angle⟩ := by
  simp [State.haltOn, State.currentTag]

/-! ### What feeding leaves of the run controller -/

@[simp] theorem State.replan_run_keeps (s : State) :
    s.replan.run.state = s.run.state ∧ s.replan.run.requested = s.run.requested ∧ s.replan.run.waiting = s.run.waiting ∧
    s.replan.run.changing = s.run.changing ∧ s.replan.run.badRequest = s.run.badRequest ∧ s.replan.run.halt = s.run.halt ∧
    s.replan.run.resetCause = s.run.resetCause := by
  rw [State.replan, State.publish_run]; exact ⟨rfl, rfl, rfl, rfl, rfl, rfl, rfl⟩

@[simp] theorem State.append_run_keeps (s : State) (g : Tag) (o : Origin) (c : Option Nat) (l : List RawLap) :
    (s.append g o c l).run.state = s.run.state ∧ (s.append g o c l).run.requested = s.run.requested ∧
    (s.append g o c l).run.waiting = s.run.waiting ∧ (s.append g o c l).run.changing = s.run.changing ∧
    (s.append g o c l).run.badRequest = s.run.badRequest ∧ (s.append g o c l).run.halt = s.run.halt ∧
    (s.append g o c l).run.resetCause = s.run.resetCause := by
  unfold State.append; split <;> simp

@[simp] theorem State.feedOne_run_keeps (s : State) :
    s.feedOne.run.state = s.run.state ∧ s.feedOne.run.requested = s.run.requested ∧
    s.feedOne.run.waiting = s.run.waiting ∧ s.feedOne.run.changing = s.run.changing ∧
    s.feedOne.run.badRequest = s.run.badRequest ∧ s.feedOne.run.halt = s.run.halt ∧
    s.feedOne.run.resetCause = s.run.resetCause := by
  unfold State.feedOne State.feedCourse; dsimp only; (repeat' split) <;> simp

@[simp] theorem State.feed_run_keeps (s : State) :
    s.feed.run.state = s.run.state ∧ s.feed.run.requested = s.run.requested ∧ s.feed.run.waiting = s.run.waiting ∧
    s.feed.run.changing = s.run.changing ∧ s.feed.run.badRequest = s.run.badRequest ∧ s.feed.run.halt = s.run.halt ∧
    s.feed.run.resetCause = s.run.resetCause := by
  unfold State.feed
  induction Config.queueRoom + 1 generalizing s with
  | zero => simp [State.feedUpTo]
  | succ n ih => unfold State.feedUpTo; split <;> simp [ih]

/-- A player that may not feed leaves the part as it is (04, R60). -/
theorem State.feed_of_canFeed {s : State} (h : s.canFeed = false) : s.feed = s := by
  simp [State.feed, State.feedUpTo, h]

/-! ### The lists at a forward crossing (05, R76, R83) -/

/-- A bound successor becomes current. -/
theorem State.crossForward_of_bound {s : State} {c n : CourseRecord} (hstep : s.lists.inStep = true)
    (hc : s.lists.current = some c) (hn : s.lists.successor = some n) (hb : s.lists.bound = true) :
    s.crossForward = (s.updLists fun l => l.stepForward c n).replan := by
  simp only [Lists.inStep, Bool.and_eq_true, beq_iff_eq] at hstep
  simp [State.crossForward, hstep.1, hstep.2, hc, hn, hb]

/-- The lists move and the permit is recomputed; a crossing past the last record reports the end of the run or an UNDERRUN. -/
theorem State.crossForward_cases (s : State) : ∃ f,
    s.crossForward = (s.updLists f).replan ∨ s.crossForward = (s.updLists f).replan.reportRunEnd 0x01 ∨
    s.crossForward = (s.updLists f).replan.reportUnderrun := by
  unfold State.crossForward
  dsimp only
  split
  · exact ⟨_, .inl rfl⟩
  · split
    · exact ⟨_, .inl rfl⟩
    · split
      · exact ⟨_, .inl rfl⟩
      · split
        · exact ⟨_, .inr (.inl rfl)⟩
        · exact ⟨_, .inr (.inr rfl)⟩

/-- In HALT the lists report nothing that the run controller acts on. -/
theorem State.crossForward_run_of_halt {s : State} (h : s.run.state = .halt) :
    s.crossForward.run.state = .halt ∧ s.crossForward.run.halt = s.run.halt := by
  obtain ⟨f, e | e | e⟩ := s.crossForward_cases
  · simp [e, h]
  · simp [e, h]
  · rw [e, State.reportUnderrun]
    split
    · simp [h]
    · rw [State.report, State.reportWith_of_halt (by simp [h])]
      simp [h]

/-- In RUN the lists go on, or halt the machine with UNDERRUN. -/
theorem State.crossForward_run_of_run {s : State} (h : s.run.state = .run) :
    (s.crossForward.run.state = .run ∧ s.crossForward.run.halt = s.run.halt) ∨
    (s.crossForward.run.state = .halt ∧ ∃ r, s.crossForward.run.halt = some r ∧ r.cause = .underrun) := by
  obtain ⟨f, e | e | e⟩ := s.crossForward_cases
  · left; simp [e, h]
  · left; simp [e, h]
  · rw [e, State.reportUnderrun]
    split
    · left; simp [h]
    · right
      rw [State.report, State.reportWith_of_run (by simp [h]), State.haltOn_run]
      exact ⟨rfl, _, rfl, rfl⟩

/-! ### The lists at an underlap arrival (05, R80, R83) -/

theorem State.arriveUnderlap_of_not_inStep {s : State} (h : s.lists.inStep = false) : s.arriveUnderlap = s := by
  simp [State.arriveUnderlap, h]

theorem State.arriveUnderlap_binds {s : State} (hstep : s.lists.inStep = true) (hn : s.lists.successor.isSome = true) :
    s.arriveUnderlap = s.updLists fun l => { l with bound := true } := by
  simp [State.arriveUnderlap, hstep, hn]

theorem State.arriveUnderlap_of_end {s : State} {c : CourseRecord} (hn : s.lists.successor = none)
    (hc : s.lists.current = some c) (h : c.endMark = true ∨ s.lists.underrunMark = true) : s.arriveUnderlap = s := by
  rcases h with h | h <;> simp [State.arriveUnderlap, hn, Lists.atEnd, hc, h, State.reportUnderrun]

theorem State.arriveUnderlap_underrun {s : State} {c : CourseRecord} (hstep : s.lists.inStep = true)
    (hn : s.lists.successor = none) (hc : s.lists.current = some c) (he : c.endMark = false)
    (hm : s.lists.underrunMark = false) :
    s.arriveUnderlap = (s.updLists fun l => { l with underrunMark := true }).report .underrun 0 0 := by
  simp [State.arriveUnderlap, hstep, hn, Lists.atEnd, hc, he, State.reportUnderrun, hm]

/-! ### When the lists follow the shaft (05, R76, R77, R79, R80; 09, R169) -/

theorem State.listsFollow_iff (s : State) : s.listsFollow = true ↔ s.run.state = .run ∨ s.run.state = .halt := by
  simp [State.listsFollow]

theorem State.listsFollow_of_moving {s : State} (h : s.run.state = .run ∨ s.run.state = .halt) : s.listsFollow = true :=
  s.listsFollow_iff.mpr h

theorem State.listsFollow_of_still {s : State} (h : s.run.state = .standby ∨ s.run.state = .hold) : s.listsFollow = false := by
  rcases h with h | h <;> simp [State.listsFollow, h]

theorem State.listsForward_of_moving {s : State} (h : s.run.state = .run ∨ s.run.state = .halt) :
    s.listsForward = s.crossForward :=
  if_pos (State.listsFollow_of_moving h)

theorem State.listsForward_of_still {s : State} (h : s.run.state = .standby ∨ s.run.state = .hold) : s.listsForward = s :=
  if_neg (by simp [State.listsFollow_of_still h])

theorem State.overspeed_iff (s : State) :
    s.overspeed = true ↔ s.run.state = .run ∧ ∃ v, s.tracker.speed = some v ∧ s.run.peak + s.machine.margin < v := by
  unfold State.overspeed
  cases s.tracker.speed <;> simp

theorem State.crossingReports_of_slow {s : State} (h : ¬s.overspeed = true) : s.crossingReports = s.listsForward :=
  if_neg h

/-- An OVERSPEED is reported before the lists move or after (09, R166). -/
theorem State.crossingReports_of_fast {s : State} (h : s.overspeed = true) :
    s.crossingReports = (s.draw.reportWith .overspeed 0 0 s.tracker.speed s.run.peak).crossForward ∨
    s.crossingReports = s.draw.crossForward.reportWith .overspeed 0 0 s.tracker.speed s.run.peak := by
  obtain ⟨hrun, -⟩ := s.overspeed_iff.mp h
  rw [State.crossingReports, if_pos h]
  dsimp only
  split
  · left
    refine State.listsForward_of_moving (.inr ?_)
    rw [State.reportWith_of_run (by exact hrun), State.haltOn_run]
  · right
    rw [State.listsForward_of_moving (.inl (by exact hrun))]

/-! ### The four events are those of the statements (01, R12, R13) -/

theorem State.forwardCrossing_crosses (s : State) : s.CrossesForward s.forwardCrossing := by
  unfold State.CrossesForward
  intro k speed u drawn report closed fast
  have hcrossing : s.forwardCrossing = closed u.crossingReports.feed := rfl
  have hfast : u.overspeed = true ↔ fast := u.overspeed_iff
  refine ⟨fun hstill => ?_, fun hmoving => ⟨fun hslow => ?_, fun hspeed => ?_⟩⟩
  · have hslow : ¬u.overspeed = true := fun h => by
      obtain ⟨hrun, -⟩ := hfast.mp h
      rcases hstill with e | e <;> rw [e] at hrun <;> cases hrun
    have hreports : u.crossingReports = u := (State.crossingReports_of_slow hslow).trans (State.listsForward_of_still hstill)
    rw [hcrossing, hreports]
    exact ⟨rfl, fun hfeed => by rw [State.feed_of_canFeed (s := u) hfeed]⟩
  · have hreports : u.crossingReports = u.crossForward :=
      (State.crossingReports_of_slow fun h => hslow (hfast.mp h)).trans (State.listsForward_of_moving hmoving)
    rw [hcrossing, hreports]
  · have hreports : u.crossingReports = (report drawn).crossForward ∨ u.crossingReports = report drawn.crossForward :=
      State.crossingReports_of_fast (hfast.mpr hspeed)
    rw [hcrossing]
    exact hreports.imp (fun e => by rw [e]) fun e => by rw [e]

theorem State.backwardCrossing_crosses (s : State) : s.CrossesBackward s.backwardCrossing :=
  ⟨fun h => if_pos (State.listsFollow_of_moving h),
    fun h => if_neg (by simp [State.listsFollow_of_still (s := s.updTracker _) h])⟩

theorem State.underlapArrival_passes (s : State) : s.PassesUnderlap s.underlapArrival .forward :=
  ⟨fun h => if_pos (State.listsFollow_of_moving h),
    fun h => if_neg (by simp [State.listsFollow_of_still (s := s.updTracker _) h])⟩

theorem State.underlapDeparture_passes (s : State) : s.PassesUnderlap s.underlapDeparture .backward :=
  ⟨fun h => if_pos (State.listsFollow_of_moving h),
    fun h => if_neg (by simp [State.listsFollow_of_still (s := s.updTracker _) h])⟩

end Sys2Proof.Machine
end

section
/-! PROOF. INDEX_ARRIVAL (01, R5 to R10): the distance of two angles, the event that a correction passes, and the loss of lock. -/

namespace Sys2Proof.Machine

/-! ### Distances on the circle (01, R5) -/

theorem gauge_eq (x y : Nat) : gauge x y = if x ≤ y then y - x else x - y := by
  unfold gauge
  split <;> omega

theorem State.withinTolerance_iff (s : State) :
    s.withinTolerance = true ↔ circularDistance s.tracker.angle s.machine.indexAngle ≤ s.machine.tolerance := by
  simp [State.withinTolerance]

/-! ### The event that a correction passes (01, R10) -/

/-- The event of the shorter way from the angle held to the index angle. -/
def correctionEvent (m : MachineRecord) (angle : Nat) : Option ShaftEvent :=
  if (m.indexAngle + Config.counts - angle) % Config.counts ≤ (angle + Config.counts - m.indexAngle) % Config.counts then
    eventOf m .forward angle ((m.indexAngle + Config.counts - angle) % Config.counts)
  else eventOf m .backward angle ((angle + Config.counts - m.indexAngle) % Config.counts)

theorem State.correct_eq (s : State) : s.correct =
    ((s.updTracker fun t => { t with angle := s.machine.indexAngle }).raise
      (correctionEvent s.machine s.tracker.angle)).follow := rfl

section

variable {m : MachineRecord} {angle : Nat}

/-- A correction forward in the course passes an underlap event or nothing. -/
theorem correctionEvent_of_ahead (hi : m.indexAngle < 4000) (h : angle < m.indexAngle) (hgap : m.indexAngle - angle < 2000) :
    correctionEvent m angle = eventOf m .forward angle (m.indexAngle - angle) := by
  have hup : (m.indexAngle + Config.counts - angle) % Config.counts = m.indexAngle - angle := by
    simp only [Config.counts]; omega
  have hdown : (angle + Config.counts - m.indexAngle) % Config.counts = angle + 4000 - m.indexAngle := by
    simp only [Config.counts]; omega
  rw [correctionEvent, hup, hdown, if_pos (by omega)]

/-- A correction backward in the course passes an underlap departure or nothing. -/
theorem correctionEvent_of_behind (ha : angle < 4000) (h : m.indexAngle < angle) (hgap : angle - m.indexAngle < 2000) :
    correctionEvent m angle = eventOf m .backward angle (angle - m.indexAngle) := by
  have hup : (m.indexAngle + Config.counts - angle) % Config.counts = m.indexAngle + 4000 - angle := by
    simp only [Config.counts]; omega
  have hdown : (angle + Config.counts - m.indexAngle) % Config.counts = angle - m.indexAngle := by
    simp only [Config.counts]; omega
  rw [correctionEvent, hup, hdown, if_neg (by omega)]

/-- A correction whose shorter way leads up through the wrap is a forward crossing. -/
theorem correctionEvent_over_wrap (ha : angle < 4000) (h : m.indexAngle < angle) (hgap : 2000 < angle - m.indexAngle) :
    correctionEvent m angle = some .forwardCrossing := by
  have hup : (m.indexAngle + Config.counts - angle) % Config.counts = m.indexAngle + 4000 - angle := by
    simp only [Config.counts]; omega
  have hdown : (angle + Config.counts - m.indexAngle) % Config.counts = angle - m.indexAngle := by
    simp only [Config.counts]; omega
  rw [correctionEvent, hup, hdown, if_pos (by omega), eventOf_forward_wrap (by omega)]

/-- A correction whose shorter way leads down through the wrap is a backward crossing. -/
theorem correctionEvent_under_wrap (hi : m.indexAngle < 4000) (h : angle < m.indexAngle)
    (hgap : 2000 < m.indexAngle - angle) : correctionEvent m angle = some .backwardCrossing := by
  have hup : (m.indexAngle + Config.counts - angle) % Config.counts = m.indexAngle - angle := by
    simp only [Config.counts]; omega
  have hdown : (angle + Config.counts - m.indexAngle) % Config.counts = angle + 4000 - m.indexAngle := by
    simp only [Config.counts]; omega
  rw [correctionEvent, hup, hdown, if_neg (by omega), eventOf_backward_wrap (by omega)]

/-- A correction forward past ul_start is an underlap arrival. -/
theorem correctionEvent_arrives (hi : m.indexAngle < 4000) (hbelow : angle < m.ulStart) (habove : m.ulStart ≤ m.indexAngle)
    (hgap : m.indexAngle - angle < 2000) : correctionEvent m angle = some .underlapArrival := by
  rw [correctionEvent_of_ahead hi (by omega) hgap, eventOf_forward_underlap (by omega) hbelow (by omega)]

/-- A correction backward past ul_start is an underlap departure. -/
theorem correctionEvent_departs (ha : angle < 4000) (hbelow : m.indexAngle < m.ulStart) (habove : m.ulStart ≤ angle)
    (hgap : angle - m.indexAngle < 2000) : correctionEvent m angle = some .underlapDeparture := by
  rw [correctionEvent_of_behind ha (by omega) hgap, eventOf_backward_underlap (by omega) habove (by omega)]

/-- A correction that stays on one side of ul_start and of the wrap passes nothing. -/
theorem correctionEvent_none (ha : angle < 4000) (hi : m.indexAngle < 4000)
    (hgap : m.indexAngle - angle + (angle - m.indexAngle) < 2000) (hne : angle ≠ m.indexAngle)
    (hside : angle < m.ulStart ↔ m.indexAngle < m.ulStart) : correctionEvent m angle = none := by
  rcases Nat.lt_or_gt_of_ne hne with h | h
  · rw [correctionEvent_of_ahead hi h (by omega), eventOf_forward_none (by omega) (by omega)]
  · rw [correctionEvent_of_behind ha h (by omega), eventOf_backward_none (by omega) (by omega)]

end

/-! ### A channel at rest through a report (09, R161, R167) -/

theorem State.channel_of_channels {s t : State} (h : t.channels = s.channels) (b : Nat) : t.channel b = s.channel b := by
  simp [State.channel, h]

/-- A halt leaves a channel that does not follow. -/
theorem State.haltOn_channel {s : State} {b : Nat} (hb : barExists b = true) (h : (s.channel b).state ≠ .following)
    (cause : Cause) (detail bar : Nat) (speed : Option Nat) (peak : Nat) :
    (s.haltOn cause detail bar speed peak).channel b = s.channel b := by
  unfold State.haltOn State.coast
  dsimp only
  generalize hw : State.notify _ _ _ _ = w
  have hsame : w.channel b = s.channel b := State.channel_of_channels (by simp [← hw]) b
  split
  · rw [State.channel_endFollowing hb, hsame, if_neg h]
  · exact hsame

/-- A report leaves a channel that holds in IDLE. -/
theorem State.report_channel_of_idle {s : State} {b : Nat} (hb : barExists b = true) (h : (s.channel b).state = .idle)
    (cause : Cause) (detail bar : Nat) : (s.report cause detail bar).channel b = s.channel b := by
  have hends : endAlignment s.machine (s.channel b) = s.channel b := by simp [endAlignment, h]
  unfold State.report State.reportWith
  split
  · exact State.haltOn_channel hb (by simp [h]) _ _ _ _ _
  · rfl
  all_goals
    split
    · exact (State.channel_mapChannels_of_initial hb rfl).trans hends
    · split
      · rfl
      · rfl

/-! ### Changes of the sync state (01, R8, R9, R14, R17) -/

theorem State.changeSync_eq (s : State) (next : SyncState) (angle : Nat) (travel : Int) (cause : SyncCause) (before : Nat) :
    s.changeSync next angle travel cause before = { s with
      tracker := { s.tracker with sync := next, angle := angle, travel := travel }
      link := s.link.offer ⟨.syncChange s.tracker.sync cause before, syncCode next, 0, s.currentTag, angle⟩ } := rfl

/-- Where the lock is lost, each FOLLOWING channel holds in IDLE, and no other channel changes (01, R14; 07, R136). -/
theorem State.channel_leaveLocked {s : State} {b : Nat} (hb : barExists b = true) :
    s.leaveLocked.channel b = if (s.channel b).state = .following then toIdle s.machine (s.channel b) else s.channel b :=
  State.channel_endFollowing hb

/-- An index arrival beyond the tolerance loses the lock, and its SYNC_LOST is reported after the SYNC_CHANGE (01, R9). -/
def State.mismatched (s : State) : State :=
  s.leaveLocked.changeSync .checking s.machine.indexAngle 0 .indexMismatch s.tracker.angle

theorem State.checkIndex_confirms {s : State} (hw : s.withinTolerance = true)
    (hround : 4000 - s.machine.tolerance ≤ s.tracker.travel.natAbs) :
    s.checkIndex = (s.updTracker fun t => { t with side := some (sideOf s.machine s.machine.indexAngle) }).changeSync .locked
      s.machine.indexAngle s.tracker.travel .indexConfirmed s.tracker.angle := by
  rw [State.checkIndex, if_pos hw]
  exact if_pos hround

theorem State.checkIndex_early {s : State} (hw : s.withinTolerance = true)
    (hshort : s.tracker.travel.natAbs < 4000 - s.machine.tolerance) : s.checkIndex = s := by
  rw [State.checkIndex, if_pos hw]
  exact if_neg (Nat.not_le.mpr hshort)

theorem State.checkIndex_restarts {s : State} (hw : ¬s.withinTolerance = true) :
    s.checkIndex = s.updTracker fun t => { t with angle := s.machine.indexAngle, travel := 0 } :=
  if_neg hw

theorem State.lockedIndex_of_same {s : State} (h : circularDistance s.tracker.angle s.machine.indexAngle = 0) :
    s.lockedIndex = s := by
  simp [State.lockedIndex, h]

theorem State.lockedIndex_corrects {s : State} (h : circularDistance s.tracker.angle s.machine.indexAngle ≠ 0)
    (hw : s.withinTolerance = true) : s.lockedIndex = s.correct := by
  simp [State.lockedIndex, h, hw]

theorem State.lockedIndex_mismatch {s : State}
    (hw : s.machine.tolerance < circularDistance s.tracker.angle s.machine.indexAngle) :
    s.lockedIndex = s.mismatched.report .syncLost 0 0 := by
  have hne : circularDistance s.tracker.angle s.machine.indexAngle ≠ 0 := by omega
  have hout : s.withinTolerance = false := by simpa [State.withinTolerance] using hw
  simp [State.lockedIndex, hne, hout, State.mismatched]

theorem State.mismatched_tracker (s : State) : s.mismatched.tracker = { s.tracker with
    sync := .checking, angle := s.machine.indexAngle, travel := 0, courseStart := none, speed := none, side := none } := by
  rfl

theorem State.mismatched_link {s : State} (h : s.tracker.sync = .locked) : s.mismatched.link = s.link.offer
    ⟨.syncChange .locked .indexMismatch s.tracker.angle, 0x02, 0, s.currentTag, s.machine.indexAngle⟩ := by
  rw [← h]; rfl

/-- A correction keeps the lock, and leaves the tracker as its event does. -/
theorem State.correct_tracker (s : State) : s.correct.tracker =
    Tracker.passing { s.tracker with angle := s.machine.indexAngle } s.now (correctionEvent s.machine s.tracker.angle) := by
  rw [State.correct_eq]
  exact State.raise_tracker _ _

theorem Tracker.passing_keeps (k : Tracker) (now : Nat) (e : Option ShaftEvent) :
    (k.passing now e).angle = k.angle ∧ (k.passing now e).sync = k.sync ∧ (k.passing now e).direction = k.direction ∧
    (k.passing now e).stopped = k.stopped ∧ (k.passing now e).countedAt = k.countedAt ∧
    (k.passing now e).levels = k.levels ∧ (k.passing now e).travel = k.travel := by
  rw [Tracker.passing_frame]
  exact ⟨rfl, rfl, rfl, rfl, rfl, rfl, rfl⟩

/-! ### The command -/

theorem exec_indexArrival {s : State} (hq : s.Quiet) (dt : Nat) :
    exec (.indexArrival dt) s = .next (s.elapse dt).arriveIndex :=
  congrArg Host.Outcome.next (State.after_of_quiet hq dt _)

/-- Settles O53: the sync state and the distance choose the case; a correction raises the event that it passes. -/
theorem indexArrivalsAreJudgedByState : Obligations.IndexArrivalsAreJudgedByState := by
  intro dt s hq hangles k i gap distance out t0
  have hangle : k.angle < 4000 := hangles.1
  have hindex : i < 4000 := hangles.2
  have hout : out = .next t0.arriveIndex := exec_indexArrival hq dt
  have hdistance : circularDistance k.angle i = distance := by
    rw [circularDistance, gauge_eq]; rfl
  have hwithin : t0.withinTolerance = true ↔ distance ≤ s.machine.tolerance := by
    rw [State.withinTolerance_iff, ← hdistance]
  rw [hout]
  refine ⟨fun hsync => ?_, fun hsync => ?_, fun hsync => ?_, fun hsync => ?_⟩
  · have h : t0.tracker.sync = .noSignal := hsync
    simp only [State.arriveIndex, h]
  · have h : t0.tracker.sync = .seekingIndex := hsync
    simp only [State.arriveIndex, h, State.changeSync_eq]
    rfl
  · have h : t0.tracker.sync = .checking := hsync
    have harrive : t0.arriveIndex = t0.checkIndex := by simp only [State.arriveIndex, h]
    rw [harrive]
    refine ⟨fun hnear hround => ?_, fun hnear hshort => ?_, fun hfar => ?_⟩
    · rw [State.checkIndex_confirms (s := t0) (hwithin.mpr hnear) hround, State.changeSync_eq, State.updTracker_tracker, h]
      rfl
    · rw [State.checkIndex_early (s := t0) (hwithin.mpr hnear) hshort]
    · rw [State.checkIndex_restarts (s := t0) fun hnear => Nat.not_le.mpr hfar (hwithin.mp hnear)]
      rfl
  · have h : t0.tracker.sync = .locked := hsync
    have harrive : t0.arriveIndex = t0.lockedIndex := by simp only [State.arriveIndex, h]
    rw [harrive]
    refine ⟨fun hsame => ?_, fun hne hnear => ?_, fun hfar => ?_⟩
    · rw [State.lockedIndex_of_same (s := t0) (hdistance.trans hsame)]
    · have hne' : circularDistance k.angle i ≠ 0 := by omega
      rw [State.lockedIndex_corrects (s := t0) hne' (hwithin.mpr hnear)]
      have hbelow : k.angle < i → gap = i - k.angle := fun h => if_pos h.le
      have habove : i < k.angle → gap = k.angle - i := fun h => if_neg (Nat.not_le.mpr h)
      have hover (h : i < k.angle) (hgap : 2000 < gap) : correctionEvent s.machine k.angle = some .forwardCrossing :=
        correctionEvent_over_wrap hangle h (by rwa [habove h] at hgap)
      have hunder (h : k.angle < i) (hgap : 2000 < gap) : correctionEvent s.machine k.angle = some .backwardCrossing :=
        correctionEvent_under_wrap hindex h (by rwa [hbelow h] at hgap)
      obtain ⟨hangle', hsync', hdirection', hstopped', hcounted', hlevels', -⟩ :=
        Tracker.passing_keeps { k with angle := i } (s.now + dt) (correctionEvent s.machine k.angle)
      refine ⟨t0.correct, rfl, ?_⟩
      rw [t0.correct_tracker]
      refine ⟨hangle', hsync'.trans hsync, hdirection', hstopped', hcounted', hlevels', fun h hgap => ?_, fun h hgap => ?_, ?_⟩
      · have hdue : t0.correct.permitLine.due = true := by rw [State.correct_eq, hover h hgap]; rfl
        rw [hover h hgap]
        exact ⟨rfl, rfl, rfl, hdue⟩
      · rw [hunder h hgap]
        exact ⟨rfl, rfl⟩
      · intro v ul
        rw [t0.correct_eq]
        refine ⟨fun h hgap => ?_, fun h hgap => ?_, fun hgap hlow hhigh => ?_, fun hgap hlow hhigh => ?_,
          fun hgap hside => ?_⟩
        · rw [hover h hgap]
          exact ⟨_, v.forwardCrossing_crosses, rfl⟩
        · rw [hunder h hgap]
          exact ⟨_, v.backwardCrossing_crosses, rfl⟩
        · have hlt : k.angle < i := Nat.lt_of_lt_of_le hlow hhigh
          have he : correctionEvent s.machine k.angle = some .underlapArrival :=
            correctionEvent_arrives hindex hlow hhigh (by rwa [hbelow hlt] at hgap)
          rw [he]
          exact ⟨_, v.underlapArrival_passes, rfl⟩
        · have hlt : i < k.angle := Nat.lt_of_lt_of_le hlow hhigh
          have he : correctionEvent s.machine k.angle = some .underlapDeparture :=
            correctionEvent_departs hangle hlow hhigh (by rwa [habove hlt] at hgap)
          rw [he]
          exact ⟨_, v.underlapDeparture_passes, rfl⟩
        · have hapart : k.angle ≠ i ∧ i - k.angle + (k.angle - i) < 2000 := by
            have hgap' : gap = if k.angle ≤ i then i - k.angle else k.angle - i := rfl
            split at hgap' <;> omega
          have he : correctionEvent s.machine k.angle = none :=
            correctionEvent_none hangle hindex hapart.2 hapart.1 hside
          rw [he]
          rfl
    · rw [State.lockedIndex_mismatch (s := t0) (hfar.trans_eq hdistance.symm)]
      refine ⟨_, rfl, ?_, ?_, fun b hb hfollows => ?_, fun hrun => ?_⟩
      · simp [State.mismatched, t0]
      · exact (by simp : (t0.mismatched.report .syncLost 0 0).tracker = t0.mismatched.tracker).trans t0.mismatched_tracker
      · have hrests : t0.mismatched.channel b = toIdle s.machine (s.channel b) :=
          (State.channel_leaveLocked (s := t0) hb).trans (if_pos hfollows)
        rw [State.report_channel_of_idle hb (by rw [hrests]; rfl), hrests]
        exact ⟨rfl, rfl⟩
      · rw [State.report, State.reportWith_of_run (s := t0.mismatched) hrun, State.haltOn_run, State.haltOn_link,
          State.mismatched_link h]
        exact ⟨rfl, rfl, rfl⟩

end Sys2Proof.Machine
end

section
/-! PROOF. ENCODER_COUNT and ENCODER_ERROR (01, R1 to R6, R12, R13, R16): a count is the tracker's part, then what the shaft's movement
ends, then the event of the angle; an encoder error ends the sync, is reported, and ends the motions. -/

namespace Sys2Proof.Machine

/-! ### The tracker's part of a count (01, R1, R3, R5, R6) -/

/-- The part when its tracker has taken a count, and nothing else has happened but the SYNC_CHANGE of the first count. -/
def State.counted (s : State) (d : Direction) (levels : Levels) : State :=
  let k := s.tracker
  let angle := match d with | .forward => (k.angle + 1) % 4000 | .backward => (k.angle + 3999) % 4000
  let net : Int := match d with | .forward => k.travel + 1 | .backward => k.travel - 1
  { s with
    tracker := { k with
      levels := levels, angle := angle, direction := d, stopped := false, countedAt := s.now
      sync := if k.sync = .noSignal then .seekingIndex else k.sync
      travel := if k.sync = .noSignal then 0 else if k.sync = .checking ∧ net.natAbs ≤ 65535 then net else k.travel
      valid := if d = .backward then false else k.valid }
    link := if k.sync = .noSignal
      then s.link.offer ⟨.syncChange .noSignal .firstCount k.angle, 0x01, 0, s.currentTag, angle⟩ else s.link }

/-- The part when the motions of a standing shaft have ended too (08, R146, R151; 09, R161). -/
def State.moved (s : State) (d : Direction) (levels : Levels) : State :=
  if s.tracker.stopped then (s.counted d levels).shaftMoved else s.counted d levels

theorem countedAngle_eq (d : Direction) (angle : Nat) : countedAngle d angle =
    match d with | .forward => (angle + 1) % 4000 | .backward => (angle + 3999) % 4000 := by
  cases d <;> rfl

theorem countedTravel_eq (d : Direction) (travel : Int) : countedTravel d travel =
    if (match d with | .forward => travel + 1 | .backward => travel - 1).natAbs ≤ 65535
    then (match d with | .forward => travel + 1 | .backward => travel - 1) else travel := by
  cases d <;> simp only [countedTravel] <;> split <;> split <;> omega

/-- The model's count, taken apart: in LOCKED the event and the cam come after the movement. -/
theorem State.count_eq (s : State) (d : Direction) (levels : Levels) : s.count d levels =
    if s.tracker.sync = .locked then ((s.moved d levels).raise (eventOf s.machine d s.tracker.angle 1)).follow
    else s.moved d levels := by
  have hcounted : (if s.tracker.sync = .noSignal
      then (s.updTracker fun t => countTracker t d levels s.now).changeSync .seekingIndex
        (s.updTracker fun t => countTracker t d levels s.now).tracker.angle 0 .firstCount s.tracker.angle
      else s.updTracker fun t => countTracker t d levels s.now) = s.counted d levels := by
    by_cases h : s.tracker.sync = .noSignal
    · rw [if_pos h]
      simp only [State.changeSync_eq, State.updTracker, countTracker, State.counted, h, countedAngle_eq, if_true]
      rfl
    · rw [if_neg h]
      by_cases hc : s.tracker.sync = .checking
      · simp [State.updTracker, countTracker, State.counted, hc, countedAngle_eq, countedTravel_eq]
      · simp [State.updTracker, countTracker, State.counted, h, hc, countedAngle_eq]
  unfold State.count State.moved
  dsimp only
  rw [hcounted]

theorem State.moved_of_rolling {s : State} (h : s.tracker.stopped = false) (d : Direction) (levels : Levels) :
    s.moved d levels = s.counted d levels := by
  simp [State.moved, h]

theorem State.count_of_locked {s : State} (h : s.tracker.sync = .locked) (d : Direction) (levels : Levels) :
    s.count d levels = ((s.moved d levels).raise (eventOf s.machine d s.tracker.angle 1)).follow := by
  rw [State.count_eq, if_pos h]

theorem State.count_of_unlocked {s : State} (h : s.tracker.sync ≠ .locked) (d : Direction) (levels : Levels) :
    s.count d levels = s.moved d levels := by
  rw [State.count_eq, if_neg h]

/-! ### The tracker after a count -/

theorem State.moved_tracker (s : State) (d : Direction) (levels : Levels) :
    (s.moved d levels).tracker = (s.counted d levels).tracker := by
  unfold State.moved; split <;> simp

theorem State.moved_now (s : State) (d : Direction) (levels : Levels) : (s.moved d levels).now = s.now := by
  unfold State.moved; split <;> simp [State.counted]

theorem State.count_now (s : State) (d : Direction) (levels : Levels) : (s.count d levels).now = s.now := by
  rw [State.count_eq]; split <;> simp [State.moved_now]

/-- In LOCKED the event changes the side and the measurement after the count has been taken. -/
theorem State.count_tracker_of_locked {s : State} (h : s.tracker.sync = .locked) (d : Direction) (levels : Levels) :
    (s.count d levels).tracker =
      (s.counted d levels).tracker.passing s.now (eventOf s.machine d s.tracker.angle 1) := by
  rw [State.count_of_locked h, ← State.moved_tracker, ← State.moved_now s d levels, ← State.raise_tracker]
  simp

/-- What a count sets in the tracker, whatever event it raises. -/
theorem State.count_tracker_keeps (s : State) (d : Direction) (levels : Levels) :
    let t := (s.count d levels).tracker
    let u := (s.counted d levels).tracker
    t.levels = u.levels ∧ t.direction = u.direction ∧ t.angle = u.angle ∧ t.stopped = u.stopped ∧
      t.countedAt = u.countedAt ∧ t.sync = u.sync ∧ t.travel = u.travel := by
  dsimp only
  by_cases h : s.tracker.sync = .locked
  · rw [State.count_tracker_of_locked h, Tracker.passing_frame]
    exact ⟨rfl, rfl, rfl, rfl, rfl, rfl, rfl⟩
  · rw [State.count_of_unlocked h, State.moved_tracker]
    exact ⟨rfl, rfl, rfl, rfl, rfl, rfl, rfl⟩

/-- In CHECKING the travel counter moves with the count, up to 65,535 either way (01, R5). -/
theorem State.counted_travel_of_checking {s : State} (h : s.tracker.sync = .checking) (d : Direction) (levels : Levels) :
    (s.counted d levels).tracker.travel =
      (let x := match d with | .forward => s.tracker.travel + 1 | .backward => s.tracker.travel - 1
       if x.natAbs ≤ 65535 then x else s.tracker.travel) := by
  cases d <;> simp [State.counted, h]

/-- A backward motion never measures a course. -/
theorem Tracker.passing_backward_valid {k : Tracker} (h : k.valid = false) (now : Nat) (m : MachineRecord) (angle n : Nat) :
    (k.passing now (eventOf m .backward angle n)).valid = false := by
  unfold eventOf
  dsimp only
  split
  · rfl
  · split
    · exact h
    · exact h

theorem State.count_valid_backward (s : State) (levels : Levels) : (s.count .backward levels).tracker.valid = false := by
  by_cases h : s.tracker.sync = .locked
  · rw [State.count_tracker_of_locked h]
    exact Tracker.passing_backward_valid rfl _ _ _ _
  · rw [State.count_of_unlocked h, State.moved_tracker]
    rfl

/-! ### The side and the measurement after a count in LOCKED (01, R12, R13, R16) -/

section

variable {s : State} (hl : s.tracker.sync = .locked) (levels : Levels)
include hl

/-- A forward wrap closes the course and opens the next, with the permit frame and a new peak (09, R155, R169). -/
theorem State.count_forward_wrap (ha : s.tracker.angle = 3999) :
    let t := s.count .forward levels
    t.tracker = (s.counted .forward levels).tracker.passing s.now (some .forwardCrossing) ∧
      t.permitLine.due = true ∧ t.run.peak = t.run.published := by
  have he : eventOf s.machine .forward s.tracker.angle 1 = some .forwardCrossing := eventOf_forward_wrap (by omega)
  dsimp only
  rw [State.count_tracker_of_locked hl, State.count_of_locked hl, he]
  exact ⟨rfl, rfl, rfl⟩

theorem State.count_backward_wrap_side (ha : s.tracker.angle = 0) :
    (s.count .backward levels).tracker.side = some .upper := by
  rw [State.count_tracker_of_locked hl, eventOf_backward_wrap (by omega)]
  rfl

theorem State.count_arrival_side (ha : s.tracker.angle < 3999) (hul : s.tracker.angle + 1 = s.machine.ulStart) :
    (s.count .forward levels).tracker.side = some .upper := by
  rw [State.count_tracker_of_locked hl, eventOf_forward_underlap (by omega) (by omega) (by omega)]
  rfl

theorem State.count_departure_side (ha : 0 < s.tracker.angle) (hul : s.tracker.angle = s.machine.ulStart) :
    (s.count .backward levels).tracker.side = some .lower := by
  rw [State.count_tracker_of_locked hl, eventOf_backward_underlap ha hul.ge (by omega)]
  rfl

end

/-! ### The commands -/

/-- The transition that a count in a direction is (01, R3). -/
def Direction.transition : Direction → Transition
  | .forward => .forward
  | .backward => .backward

theorem State.sample_of_count {s : State} {d : Direction} {levels : Levels}
    (h : Sys2Proof.Machine.transition s.tracker.levels levels = d.transition) : s.sample levels = s.count d levels := by
  cases d <;> simp [State.sample, h, Direction.transition]

theorem exec_encoderCount {s : State} (hq : s.Quiet) (levels : Levels) (dt : Nat) :
    exec (.encoderCount levels dt) s = .next ((s.elapse dt).sample levels) :=
  congrArg Host.Outcome.next (State.after_of_quiet hq dt _)

theorem exec_encoderCount_of_count {s : State} (hq : s.Quiet) {levels : Levels} {d : Direction} (dt : Nat)
    (h : transition s.tracker.levels levels = d.transition) :
    exec (.encoderCount levels dt) s = .next ((s.elapse dt).count d levels) := by
  rw [exec_encoderCount hq, State.sample_of_count (s := s.elapse dt) h]

theorem exec_encoderError {s : State} (hq : s.Quiet) (dt : Nat) :
    exec (.encoderError dt) s = .next (s.elapse dt).encoderError :=
  congrArg Host.Outcome.next (State.after_of_quiet hq dt _)

/-! ### What the movement of a standing shaft ends (08, R146, R151; 09, R161) -/

theorem State.failAlignment_eq (s : State) (cause : Cause) (detail bar : Nat) : s.failAlignment cause detail bar = { s with
    channels := (s.failAlignment cause detail bar).channels
    run := { s.run with waiting := false, changing := false, requested := none }
    link := s.link.offer ⟨.stateFailed (s.run.requested.getD .run) s.run.changing s.run.state detail, causeCode cause, bar,
      s.currentTag, s.tracker.angle⟩ } := rfl

/-- The channels of an alignment come to rest, and no other channel changes. -/
theorem State.channel_failAlignment {s : State} {b : Nat} (hb : barExists b = true) (cause : Cause) (detail bar : Nat) :
    (s.failAlignment cause detail bar).channel b =
      let c := s.channel b
      if c.state = .aligning ∨ (c.state = .energizing ∧ c.pendingMove = some .alignment) then c.rested s.machine else c := by
  refine (State.channel_mapChannels_of_initial hb rfl).trans ?_
  simp [endAlignment, toIdle_eq_rested]

/-- The part when a standing shaft's jogs and referencing have ended. -/
def State.restless (s : State) : State :=
  s.endMotions .shaftMoved .shaftMoved (toIdle s.machine) fun c => toIdle s.machine (unreferenced c)

theorem State.aligningToRun_iff (s : State) :
    s.aligningToRun = true ↔ s.run.changing = true ∧ s.run.requested = some .run := by
  simp [State.aligningToRun]

theorem State.restless_aligningToRun (s : State) : s.restless.aligningToRun = s.aligningToRun := by
  simp [State.restless, State.aligningToRun]

theorem State.shaftMoved_of_aligning {s : State} (h : s.aligningToRun = true) :
    s.shaftMoved = s.restless.failAlignment .shaftMoved 0 0 :=
  if_pos ((State.restless_aligningToRun s).trans h)

theorem State.shaftMoved_of_not_aligning {s : State} (h : ¬s.aligningToRun = true) : s.shaftMoved = s.restless :=
  if_neg fun hr => h ((State.restless_aligningToRun s).symm.trans hr)

/-! ### The encoder error (01, R4, R14) -/

/-- The part when an encoder error has ended the sync, and is not reported yet. -/
def State.erred (s : State) : State :=
  let k := s.tracker
  { s with
    tracker := { k with
      levels := ⟨!k.levels.a, !k.levels.b⟩, sync := .noSignal, travel := if k.sync = .noSignal then k.travel else 0
      courseStart := if k.sync = .locked then none else k.courseStart
      speed := if k.sync = .locked then none else k.speed
      side := if k.sync = .locked then none else k.side }
    link := if k.sync = .noSignal then s.link
      else s.link.offer ⟨.syncChange k.sync .encoderError k.angle, 0x00, 0, s.currentTag, k.angle⟩
    channels := if k.sync = .locked then s.endFollowing.channels else s.channels }

theorem State.leaveLocked_tracker (s : State) :
    s.leaveLocked.tracker = { s.tracker with courseStart := none, speed := none, side := none } := rfl

theorem State.encoderError_eq (s : State) : s.encoderError = (s.erred.report .encoderError 0 0).restless := by
  have hmachine : (s.erred.report .encoderError 0 0).machine = s.machine := by simp [State.erred]
  rw [State.restless, hmachine]
  unfold State.encoderError
  dsimp only
  congr 2
  by_cases h : s.tracker.sync = .locked
  · simp only [State.erred, h, State.changeSync_eq, State.leaveLocked_tracker, State.updTracker_tracker, if_true,
      reduceCtorEq, if_false]
    rfl
  · by_cases hn : s.tracker.sync = .noSignal
    · simp [State.erred, hn, State.updTracker]
    · simp [State.erred, h, hn, State.changeSync_eq, State.updTracker, State.currentTag, syncCode]

theorem State.channel_erred {s : State} {b : Nat} (hb : barExists b = true) : s.erred.channel b =
    if s.tracker.sync = .locked ∧ (s.channel b).state = .following then (s.channel b).rested s.machine else s.channel b := by
  by_cases h : s.tracker.sync = .locked
  · have hchannels : s.erred.channels = s.endFollowing.channels := if_pos h
    rw [State.channel_of_channels hchannels, State.channel_endFollowing hb, toIdle_eq_rested]
    simp [h]
  · have hchannels : s.erred.channels = s.channels := if_neg h
    rw [State.channel_of_channels hchannels]
    simp [h]

/-! ### A part without motions (08, R146, R151) -/

/-- No channel has a jog, whether a table holds it or not. -/
theorem State.jog_of_anyJog {s : State} (h : s.anyJog = false) (b : Nat) : (s.channel b).jog = none := by
  simp only [State.channel, List.getD]
  cases hc : s.channels[b - 1]? with
  | none => rfl
  | some c =>
    have hmem := List.mem_of_getElem? hc
    simpa using List.any_eq_false.mp h c hmem

theorem mapFrom_any_jog {f : Nat → Channel → Channel} (hf : ∀ b c, c.jog = none → (f b c).jog = none) (n : Nat)
    (l : List Channel) (h : l.any (fun c => c.jog.isSome) = false) : (mapFrom f n l).any (fun c => c.jog.isSome) = false := by
  induction l generalizing n with
  | nil => rfl
  | cons c l ih =>
    simp only [List.any_cons, Bool.or_eq_false_iff, Option.isSome_eq_false_iff, Option.isNone_iff_eq_none] at h
    simp [mapFrom, hf n c h.1, ih (n + 1) h.2]

theorem State.anyJog_mapChannels {s : State} (h : s.anyJog = false) {f : Nat → Channel → Channel}
    (hf : ∀ b c, c.jog = none → (f b c).jog = none) : (s.mapChannels f).anyJog = false :=
  mapFrom_any_jog hf 1 s.channels h

theorem State.anyJog_endFollowing {s : State} (h : s.anyJog = false) : s.endFollowing.anyJog = false :=
  State.anyJog_mapChannels h fun b c hc => by split <;> simp [hc]

theorem State.anyJog_of_channels {s t : State} (h : t.channels = s.channels) : t.anyJog = s.anyJog := by
  simp [State.anyJog, h]

theorem State.anyJog_coast {s : State} (h : s.anyJog = false) : s.coast.anyJog = false := by
  unfold State.coast
  split
  · exact State.anyJog_endFollowing h
  · exact h

theorem State.anyJog_report {s : State} (h : s.anyJog = false) (cause : Cause) (detail bar : Nat) :
    (s.report cause detail bar).anyJog = false := by
  unfold State.report State.reportWith
  split
  · exact State.anyJog_coast ((State.anyJog_of_channels (by simp)).trans h)
  · exact h
  all_goals
    split
    · exact State.anyJog_mapChannels (s := s) h fun b c hc => by simp only [endAlignment]; split <;> simp [hc]
    · split
      · exact h
      · exact h

theorem State.anyJog_erred {s : State} (h : s.anyJog = false) : s.erred.anyJog = false := by
  by_cases hl : s.tracker.sync = .locked
  · exact (State.anyJog_of_channels (t := s.erred) (s := s.endFollowing) (if_pos hl)).trans (State.anyJog_endFollowing h)
  · exact (State.anyJog_of_channels (t := s.erred) (s := s) (if_neg hl)).trans h

/-- With no jog and no referencing nothing ends. -/
theorem State.restless_of_none {s : State} (hj : s.anyJog = false) (hr : s.referencing = none) : s.restless = s := by
  have hjogs (bs : List Nat) (f : Channel → Channel) :
      bs.foldl (fun s b => s.endJog b .shaftMoved f) s = s := by
    induction bs with
    | nil => rfl
    | cons b bs ih =>
      have hb : s.endJog b .shaftMoved f = s := by simp [State.endJog, State.jog_of_anyJog hj b]
      rw [List.foldl_cons, hb, ih]
  simp [State.restless, State.endMotions, hr, State.endJogs, hjogs, State.finishRemaining]

@[simp] theorem State.finishRemaining_referencing (s : State) (o : RefOutcome) (f : Channel → Channel) :
    (s.finishRemaining o f).referencing = none := by
  unfold State.finishRemaining
  split
  · assumption
  · rfl

theorem State.restless_referencing (s : State) : s.restless.referencing = none := by
  unfold State.restless State.endMotions
  split
  · split <;> simp
  · simp

/-! ### Sizes -/

theorem State.report_channels_length (s : State) (cause : Cause) (detail bar : Nat) :
    (s.report cause detail bar).channels.length = s.channels.length := by
  unfold State.report State.reportWith
  split
  · unfold State.haltOn State.coast
    dsimp only
    split <;> simp [State.endFollowing]
  · rfl
  all_goals
    split
    · simp [State.failAlignment]
    · split <;> simp

theorem State.erred_channels_length (s : State) : s.erred.channels.length = s.channels.length := by
  simp only [State.erred]
  split <;> simp [State.endFollowing]

/-! ### The cam after a count (07, R130) -/

theorem State.channel_follow {s : State} {b : Nat} (hb : barExists b = true) :
    s.follow.channel b = s.followed b (s.channel b) :=
  State.channel_mapChannels_of_initial hb rfl

theorem State.boundNext_of_unbound {s : State} {b : Nat} {lap : BarLap} (h : s.lists.bound = false) :
    s.boundNext b lap = lap.back := by
  simp [State.boundNext, h]

theorem State.boundNext_of_bound {s : State} {b : Nat} {lap next : BarLap} {n : CourseRecord} (h : s.lists.bound = true)
    (hn : s.lists.successor = some n) (hnext : n.lap b = some next) : s.boundNext b lap = next.front := by
  simp [State.boundNext, h, hn, hnext]

/-- A FOLLOWING channel in step with the shaft stands at its cam. -/
theorem State.followed_setpoint {s : State} {b : Nat} {ch : Channel} {ref : Int} {c : CourseRecord} {lap : BarLap}
    (hstate : ch.state = .following) (href : ch.refPoint = some ref) (hstep : s.lists.inStep = true)
    (hc : s.lists.current = some c) (hlap : c.lap b = some lap) :
    let place := coordOf s.machine (s.profile b) ref
    (s.followed b ch).setpoint =
      cam s.machine s.tracker.angle (place lap.front) (place lap.back) (place (s.boundNext b lap)) := by
  simp [State.followed, hstate, hstep, State.camSetpoint, href, hc, hlap]

end Sys2Proof.Machine
end

section
/-! PROOF. What the commands of the encoder bring about (O52): the circle of level pairs, the tracker, each event of a rolling shaft,
and the motions that a standing shaft ends. -/

namespace Sys2Proof.Machine

/-! ### The run controller at a forward crossing (09, R166, R169) -/

theorem State.forwardCrossing_run (s : State) :
    s.forwardCrossing.run.state = s.closeCourse.crossingReports.run.state ∧
    s.forwardCrossing.run.halt = s.closeCourse.crossingReports.run.halt := by
  simp [State.forwardCrossing]

/-- Out of RUN a forward crossing leaves the run state and the halt record. -/
theorem State.crossingReports_of_ne_run {s : State} (h : s.run.state ≠ .run) :
    s.crossingReports.run.state = s.run.state ∧ s.crossingReports.run.halt = s.run.halt := by
  have hslow : ¬s.overspeed = true := fun hfast => h (s.overspeed_iff.mp hfast).1
  rw [State.crossingReports_of_slow hslow]
  cases hs : s.run.state with
  | run => exact absurd hs h
  | halt =>
    rw [State.listsForward_of_moving (.inr hs)]
    exact State.crossForward_run_of_halt hs
  | standby => rw [State.listsForward_of_still (.inl hs)]; exact ⟨hs, rfl⟩
  | hold => rw [State.listsForward_of_still (.inr hs)]; exact ⟨hs, rfl⟩

/-- An overspeed halts the machine, unless the lists' UNDERRUN has halted it first (09, R166; log 8). -/
theorem State.crossingReports_halts {s : State} (h : s.overspeed = true) :
    s.crossingReports.run.state = .halt ∧
    ∃ r, s.crossingReports.run.halt = some r ∧ (r.cause = .overspeed ∨ r.cause = .underrun) := by
  obtain ⟨hrun, -⟩ := s.overspeed_iff.mp h
  rcases State.crossingReports_of_fast h with e | e <;> rw [e]
  · rw [State.reportWith_of_run (by exact hrun)]
    obtain ⟨hstate, hrecord⟩ := State.crossForward_run_of_halt
      (s := s.draw.haltOn .overspeed 0 0 s.tracker.speed s.run.peak) (by rw [State.haltOn_run])
    rw [State.haltOn_run] at hrecord
    exact ⟨hstate, _, hrecord, .inl rfl⟩
  · rcases State.crossForward_run_of_run (s := s.draw) hrun with ⟨hstate, -⟩ | ⟨hstate, r, hrecord, hcause⟩
    · rw [State.reportWith_of_run hstate, State.haltOn_run]
      exact ⟨rfl, _, rfl, .inl rfl⟩
    · rw [State.reportWith_of_halt hstate]
      exact ⟨hstate, r, hrecord, .inr hcause⟩

section

variable {s : State} {c n : CourseRecord}

/-- With a bound successor the lists report nothing, and an overspeed halts the machine with the record before or after. -/
theorem State.crossingReports_bound_fast {v : Nat} (hstep : s.lists.inStep = true) (hc : s.lists.current = some c)
    (hn : s.lists.successor = some n) (hb : s.lists.bound = true) (hfast : s.overspeed = true)
    (hv : s.tracker.speed = some v) :
    ∃ tag, (tag = c.tag ∨ tag = n.tag) ∧
      s.crossingReports.run.halt = some ⟨.overspeed, 0, 0, tag, s.tracker.angle, some v⟩ ∧
      s.crossingReports.link =
        s.link.offer ⟨.halted 0 (some v) s.run.peak s.run.requested, 0x02, 0, tag, s.tracker.angle⟩ ∧
      s.crossingReports.lists.source = s.lists.source := by
  obtain ⟨hrun, -⟩ := s.overspeed_iff.mp hfast
  rcases State.crossingReports_of_fast hfast with e | e <;> rw [e]
  · have htag : s.draw.currentTag = c.tag := by simp [State.currentTag, hc]
    have hlists (x : State) (hx : x.lists = s.lists) :
        x.crossForward = (x.updLists fun l => l.stepForward c n).replan :=
      State.crossForward_of_bound (by rw [hx, hstep]) (by rw [hx, hc]) (by rw [hx, hn]) (by rw [hx, hb])
    rw [State.reportWith_of_run (by exact hrun), hlists _ (by simp)]
    refine ⟨c.tag, .inl rfl, ?_, ?_, ?_⟩
    · simp [State.haltOn_run, htag, hv]
    · simp [State.haltOn_link, htag, hv, causeCode]
    · simp [Lists.stepForward, Lists.clearMarks]
  · rw [State.crossForward_of_bound (s := s.draw) hstep hc hn hb, State.reportWith_of_run (by simp [hrun])]
    refine ⟨n.tag, .inr rfl, ?_, ?_, ?_⟩
    · simp [State.haltOn_run, State.currentTag, Lists.stepForward, hv]
    · simp [State.haltOn_link, State.currentTag, Lists.stepForward, hv, causeCode]
    · simp [Lists.stepForward, Lists.clearMarks]

theorem State.crossingReports_bound_slow (hrun : s.run.state = .run) (hstep : s.lists.inStep = true)
    (hc : s.lists.current = some c) (hn : s.lists.successor = some n) (hb : s.lists.bound = true)
    (hslow : ¬s.overspeed = true) : s.crossingReports = (s.updLists fun l => l.stepForward c n).replan := by
  rw [State.crossingReports_of_slow hslow, State.listsForward_of_moving (.inl hrun),
    State.crossForward_of_bound hstep hc hn hb]

end

/-- The player feeds nothing while the lists' source is the stream (04, R60). -/
theorem State.canFeed_of_stream {s : State} (h : s.lists.source = .stream) : s.canFeed = false := by
  simp [State.canFeed, h]

theorem State.forwardCrossing_of_stream {s : State} (h : s.closeCourse.crossingReports.lists.source = .stream) :
    s.forwardCrossing = ((s.closeCourse.crossingReports).updRun fun r => { r with peak := r.published }).permitDue := by
  rw [State.forwardCrossing, State.feed_of_canFeed (State.canFeed_of_stream h)]

/-! ### What each event does to the lists, the run controller and the link -/

/-- The arrival binds the successor, or reports UNDERRUN once for a current record without the end mark (05, R79, R80, R83). -/
theorem State.underlapArrival_spec (s : State) :
    let t := s.underlapArrival
    let l := s.lists
    let follows : Prop := s.run.state = .run ∨ s.run.state = .halt
    (¬follows ∨ l.inStep = false → t.lists = l ∧ t.run = s.run ∧ t.link = s.link) ∧
    (follows → l.inStep = true →
      (l.successor.isSome = true → t.lists = { l with bound := true } ∧ t.run = s.run ∧ t.link = s.link) ∧
      (∀ c, l.successor = none → l.current = some c →
        (c.endMark = true ∨ l.underrunMark = true → t.lists = l ∧ t.run = s.run ∧ t.link = s.link) ∧
        (c.endMark = false → l.underrunMark = false → t.lists = { l with underrunMark := true } ∧
          (s.run.state = .run → t.run.state = .halt ∧ t.run.published = 0 ∧
            t.run.halt = some ⟨.underrun, 0, 0, c.tag, s.tracker.angle, s.tracker.speed⟩ ∧
            t.link = s.link.offer ⟨.halted 0 s.tracker.speed 0 s.run.requested, 0x01, 0, c.tag, s.tracker.angle⟩) ∧
          (s.run.state = .halt → t.run = s.run ∧ t.link = s.link.offer
            ⟨.furtherFault 0 s.tracker.speed 0 s.run.requested, 0x01, 0, c.tag, s.tracker.angle⟩)))) := by
  intro t l follows
  let u := s.updTracker fun t => { t with side := some .upper }
  have hfollows (h : follows) : t = u.arriveUnderlap := if_pos (u.listsFollow_iff.mpr h)
  refine ⟨fun h => ?_, fun h hstep => ⟨fun hn => ?_, fun c hn hc => ⟨fun hend => ?_, fun he hm => ?_⟩⟩⟩
  · have hsame : t = u := by
      by_cases hf : follows
      · rw [hfollows hf, State.arriveUnderlap_of_not_inStep (s := u) (h.resolve_left (not_not_intro hf))]
      · exact if_neg fun hl => hf (u.listsFollow_iff.mp hl)
    rw [hsame]
    exact ⟨rfl, rfl, rfl⟩
  · rw [hfollows h, State.arriveUnderlap_binds (s := u) hstep hn]
    exact ⟨rfl, rfl, rfl⟩
  · rw [hfollows h, State.arriveUnderlap_of_end (s := u) hn hc hend]
    exact ⟨rfl, rfl, rfl⟩
  · have htag : s.currentTag = c.tag := by simp [State.currentTag, show s.lists.current = some c from hc]
    rw [hfollows h, State.arriveUnderlap_underrun (s := u) hstep hn hc he hm, ← htag]
    refine ⟨by simp [u, l], fun hrun => ?_, fun hhalt => ?_⟩
    · rw [State.report, State.reportWith_of_run (by exact hrun), State.haltOn_run, State.haltOn_link]
      exact ⟨rfl, rfl, rfl, rfl⟩
    · rw [State.report, State.reportWith_of_halt (by exact hhalt)]
      exact ⟨rfl, rfl⟩

/-- The departure unbinds where the lists follow (05, R79, R81). -/
theorem State.underlapDeparture_spec (s : State) :
    let t := s.underlapDeparture
    let follows : Prop := s.run.state = .run ∨ s.run.state = .halt
    t.run = s.run ∧ t.link = s.link ∧ (follows → t.lists = { s.lists with bound := false }) ∧
      (¬follows → t.lists = s.lists) := by
  intro t follows
  let u := s.updTracker fun t => { t with side := some .lower }
  by_cases hf : follows
  · have ht : t = u.departUnderlap := if_pos (u.listsFollow_iff.mpr hf)
    rw [ht]
    exact ⟨rfl, rfl, fun _ => rfl, fun h => absurd hf h⟩
  · have ht : t = u := if_neg fun hl => hf (u.listsFollow_iff.mp hl)
    rw [ht]
    exact ⟨rfl, rfl, fun h => absurd h hf, fun _ => rfl⟩

/-- A forward crossing halts a machine in RUN that is too fast, and no other; with a bound successor of the stream it reports nothing
else (05, R76; 09, R166, R169). -/
theorem State.forwardCrossing_spec (s : State) :
    let t := s.forwardCrossing
    let l := s.lists
    let speed := courseSpeed s.tracker s.now
    (s.run.state ≠ .run → t.run.state = s.run.state ∧ t.run.halt = s.run.halt) ∧
    (∀ v, s.run.state = .run → speed = some v → s.run.peak + s.machine.margin < v → t.run.state = .halt ∧
      ∃ h, t.run.halt = some h ∧ (h.cause = .overspeed ∨ h.cause = .underrun)) ∧
    (∀ c n, s.run.state = .run → l.source = .stream → l.inStep = true → l.bound = true → l.current = some c →
      l.successor = some n →
      (∀ v, speed = some v → s.run.peak + s.machine.margin < v →
        ∃ tag, (tag = c.tag ∨ tag = n.tag) ∧ t.run.halt = some ⟨.overspeed, 0, 0, tag, s.tracker.angle, some v⟩ ∧
          t.link = s.link.offer ⟨.halted 0 (some v) s.run.peak s.run.requested, 0x02, 0, tag, s.tracker.angle⟩) ∧
      (speed = none ∨ (∃ v, speed = some v ∧ v ≤ s.run.peak + s.machine.margin) →
        t.run.state = .run ∧ t.run.halt = s.run.halt ∧ t.link = s.link)) := by
  intro t l speed
  let u := s.closeCourse
  obtain ⟨hstate, hhalt⟩ := s.forwardCrossing_run
  have hfast (v : Nat) (hrun : s.run.state = .run) (hv : speed = some v) (hover : s.run.peak + s.machine.margin < v) :
      u.overspeed = true := u.overspeed_iff.mpr ⟨hrun, v, hv, hover⟩
  refine ⟨fun hne => ?_, fun v hrun hv hover => ?_, fun c n hrun hsource hstep hb hc hn => ⟨fun v hv hover => ?_, fun h => ?_⟩⟩
  · rw [hstate, hhalt]
    exact State.crossingReports_of_ne_run (s := u) hne
  · rw [hstate, hhalt]
    exact State.crossingReports_halts (hfast v hrun hv hover)
  · obtain ⟨tag, htag, hrecord, hlink, hlists⟩ :=
      State.crossingReports_bound_fast (s := u) hstep hc hn hb (hfast v hrun hv hover) hv
    have ht := State.forwardCrossing_of_stream (hlists.trans hsource)
    exact ⟨tag, htag, hhalt.trans hrecord, (congrArg State.link ht).trans hlink⟩
  · have hslow : ¬u.overspeed = true := fun hfast => by
      obtain ⟨-, v, hv, hover⟩ := u.overspeed_iff.mp hfast
      rcases h with h | ⟨w, hw, hle⟩
      · cases h.symm.trans hv
      · obtain rfl : w = v := Option.some.inj (hw.symm.trans hv)
        exact absurd hover (Nat.not_lt.mpr hle)
    have hreports := State.crossingReports_bound_slow (s := u) hrun hstep hc hn hb hslow
    have ht := State.forwardCrossing_of_stream (s := s) (by
      rw [hreports]; simpa [u, State.closeCourse, Lists.stepForward, Lists.clearMarks] using hsource)
    rw [hstate, hhalt]
    refine ⟨?_, ?_, (congrArg State.link ht).trans ?_⟩
    · rw [hreports]; simpa [u, State.closeCourse] using hrun
    · rw [hreports]; simp [u, State.closeCourse]
    · rw [State.permitDue_link, State.updRun_link, hreports]; simp [u, State.closeCourse]

/-! ### The circle of level pairs, and the motions of a standing shaft -/

/-- The four level pairs follow in a circle (01, R3, R4). -/
theorem transition_circle :
    let circle : List Levels := [⟨false, false⟩, ⟨true, false⟩, ⟨true, true⟩, ⟨false, true⟩]
    ∀ i, i < 4 → ∀ x y : Levels, circle[i]? = some x → circle[(i + 1) % 4]? = some y →
      transition x y = .forward ∧ transition y x = .backward ∧ transition x x = .none ∧
        transition x ⟨!x.a, !x.b⟩ = .error := by
  intro circle i hi x y hx hy
  interval_cases i <;> (cases hx; cases hy; decide)

/-- What the end of the motions leaves where the shaft has left STOPPED, in the statements' terms. -/
theorem State.moved_spec {s : State} (hs : s.Sized) (d : Direction) (levels : Levels) :
    let u := s.counted d levels
    let v := s.moved d levels
    let aligning : Prop := s.run.changing = true ∧ s.run.requested = some .run
    ∃ e, (s.tracker.stopped = false → e = u) ∧ (s.tracker.stopped = true → u.MotionsMoved e) ∧
      (s.tracker.stopped = false ∨ ¬aligning → v = e) ∧
      (s.tracker.stopped = true → aligning →
        v = { e with
          channels := v.channels, run := { s.run with waiting := false, changing := false, requested := none }
          link := e.link.offer ⟨.stateFailed .run true s.run.state 0, 0x09, 0, s.currentTag, u.tracker.angle⟩ } ∧
        ∀ b, barExists b = true →
          let c := e.channel b
          v.channel b = if c.state = .aligning ∨ (c.state = .energizing ∧ c.pendingMove = some .alignment)
            then c.rested s.machine else c) := by
  intro u v aligning
  have haligns : u.aligningToRun = true ↔ aligning := u.aligningToRun_iff
  cases hst : s.tracker.stopped with
  | false =>
    have hv : v = u := State.moved_of_rolling hst d levels
    exact ⟨u, fun _ => rfl, nofun, fun _ => hv, nofun⟩
  | true =>
    have hv : v = u.shaftMoved := if_pos hst
    refine ⟨u.restless, nofun, fun _ => State.endMotions_moved hs.1, fun h => ?_, fun _ h => ?_⟩
    · rw [hv, State.shaftMoved_of_not_aligning fun ha => h.elim nofun fun hn => hn (haligns.mp ha)]
    · rw [hv, State.shaftMoved_of_aligning (haligns.mpr h)]
      refine ⟨?_, fun b hb => ?_⟩
      · have hrun : u.restless.run = s.run := by simp [State.restless, u, State.counted]
        have htag : u.restless.currentTag = s.currentTag := by simp [State.restless, State.currentTag, u, State.counted]
        have htracker : u.restless.tracker = u.tracker := by simp [State.restless]
        rw [State.failAlignment_eq, hrun, htag, htracker, h.1, h.2]
        rfl
      · have hmachine : u.restless.machine = s.machine := by simp [State.restless, u, State.counted]
        rw [State.channel_failAlignment hb, hmachine]

/-- Settles O52: the commands are those of the lemmas above, taken apart by the sync state, the direction and the angle. -/
theorem countsMoveTheAngle : Obligations.CountsMoveTheAngle := by
  refine ⟨⟨transition_circle, fun lv dt s hq => ?_, fun dt s hq => ?_⟩, fun lv dt s hq hs hsync hrolls => ?_,
    fun lv dt d s hq hs hd => ?_, fun dt s hq hs => ?_⟩
  · -- The tracker, in every sync state (01, R1 to R6, R12, R13).
    intro k now
    refine ⟨fun hnone => ?_, fun herror => ?_, fun d hd => ?_⟩
    · rw [exec_encoderCount hq, State.sample, State.elapse_tracker, hnone]; rfl
    · rw [exec_encoderCount hq, exec_encoderError hq, State.sample, State.elapse_tracker, herror]
    · rw [exec_encoderCount_of_count (d := d) hq dt (by cases d <;> exact hd)]
      obtain ⟨hlevels, hdirection, hangle, hstopped, hcounted, hsync, htravel⟩ := (s.elapse dt).count_tracker_keeps d lv
      refine ⟨_, rfl, State.count_now _ _ _, hlevels, hdirection, hangle, hstopped, hcounted, hsync, fun hc => ?_,
        fun hb => ?_, fun hu hr => ?_, fun hl => ⟨fun hd ha => ?_, fun hd ha => ?_, fun hd ha hul => ?_,
        fun hd ha hul => ?_⟩⟩
      · rw [htravel]
        exact State.counted_travel_of_checking (s := s.elapse dt) hc d lv
      · subst hb; exact State.count_valid_backward _ _
      · rw [State.count_of_unlocked (s := s.elapse dt) hu, State.moved_of_rolling (s := s.elapse dt) hr]
        exact ⟨rfl, rfl⟩
      · subst hd
        obtain ⟨htracker, hdue, hpeak⟩ := State.count_forward_wrap (s := s.elapse dt) hl lv ha
        rw [htracker]
        exact ⟨rfl, rfl, rfl, rfl, hdue, hpeak⟩
      · subst hd; exact State.count_backward_wrap_side (s := s.elapse dt) hl lv ha
      · subst hd; exact State.count_arrival_side (s := s.elapse dt) hl lv ha hul
      · subst hd; exact State.count_departure_side (s := s.elapse dt) hl lv ha hul
  · -- A pair that changes together ends the sync (01, R16; 09, R167).
    intro k lost speed changed
    rw [exec_encoderError hq, State.encoderError_eq]
    refine ⟨_, rfl, ?_, State.restless_referencing _, ?_, fun hj hr => ?_⟩
    · simp [State.restless, State.erred]
    · exact (by simp [State.restless] : _ = (s.elapse dt).erred.tracker).trans rfl
    · have hnojog := State.anyJog_report (State.anyJog_erred (s := s.elapse dt) hj) .encoderError 0 0
      rw [State.restless_of_none hnojog (by simpa [State.erred] using hr)]
      refine ⟨fun hrun => ?_, fun hhalt => ?_, fun hstill hchanging => ?_⟩
      · rw [State.report, State.reportWith_of_run (s := (s.elapse dt).erred) hrun, State.haltOn_run, State.haltOn_link]
        exact ⟨rfl, rfl, rfl⟩
      · rw [State.report, State.reportWith_of_halt (s := (s.elapse dt).erred) hhalt]
        exact ⟨rfl, rfl⟩
      · rw [State.report_of_unchanging (s := (s.elapse dt).erred) hstill hchanging rfl]
        exact ⟨rfl, rfl⟩
  · -- A rolling shaft in LOCKED: no event, the two of the underlap side, the forward crossing (05, R76 to R83).
    intro k l m now follows
    let w (d : Direction) : State := (s.elapse dt).counted d lv
    have hlink (d : Direction) : (w d).link = s.link := if_neg (show ¬s.tracker.sync = .noSignal by simp [hsync])
    have hcount (d : Direction) (hd : transition k.levels lv = d.transition) : exec (.encoderCount lv dt) s =
        .next ((w d).raise (eventOf m d k.angle 1)).follow := by
      rw [exec_encoderCount_of_count hq dt hd, State.count_of_locked (s := s.elapse dt) hsync,
        State.moved_of_rolling (s := s.elapse dt) hrolls]
      rfl
    refine ⟨fun hd ha hne => ?_, fun hd ha hul => ?_, fun hd ha hul => ?_, fun hd ha => ?_⟩
    · rw [hcount .forward hd, eventOf_forward_none (by omega) (by omega)]
      have hangle : (w .forward).tracker.angle = k.angle + 1 := Nat.mod_eq_of_lt (show k.angle + 1 < 4000 by omega)
      refine ⟨_, rfl, rfl, rfl, hlink .forward, ?_⟩
      intro b ref c lap hb hfollows href hstep hc hlap place
      have hcam {i : Nat} (hi : (w .forward).boundNext b lap = i) :
          (((w .forward).raise none).follow.channel b).setpoint =
            cam m (k.angle + 1) (place lap.front) (place lap.back) (place i) := by
        rw [← hangle, ← hi]
        exact (congrArg Channel.setpoint (State.channel_follow hb)).trans
          (State.followed_setpoint (s := w .forward) hfollows href hstep hc hlap)
      exact ⟨fun hbound => hcam (State.boundNext_of_unbound hbound),
        fun n next hbound hn hnext => hcam (State.boundNext_of_bound hbound hn hnext)⟩
    · rw [hcount .forward hd, eventOf_forward_underlap (by omega) (by omega) (by omega)]
      have hangle : (w .forward).tracker.angle = m.ulStart := (Nat.mod_eq_of_lt (show k.angle + 1 < 4000 by omega)).trans hul
      have hspec := (w .forward).underlapArrival_spec
      rw [hangle, hlink] at hspec
      exact ⟨_, rfl, hspec⟩
    · rw [hcount .backward hd, eventOf_backward_underlap ha (by omega) (by omega)]
      obtain ⟨hrun, hlink', hlists⟩ := (w .backward).underlapDeparture_spec
      exact ⟨_, rfl, hrun, hlink'.trans (hlink _), hlists⟩
    · intro speed
      rw [hcount .forward hd, eventOf_forward_wrap (by omega)]
      have hangle : (w .forward).tracker.angle = 0 := by
        show (k.angle + 1) % 4000 = 0
        omega
      have hspec := (w .forward).forwardCrossing_spec
      rw [hangle, hlink] at hspec
      exact ⟨_, rfl, hspec⟩
  · -- The motions that the movement ends come first, then the event of the angle (08, R146, R151; 09, R161).
    intro k m now out angle net u aligning
    have hout : out = .next ((s.elapse dt).count d lv) := exec_encoderCount_of_count hq dt (by cases d <;> exact hd)
    obtain ⟨e, hrolling, hmoved, hcalm, haligning⟩ := State.moved_spec (s := s.elapse dt) hs d lv
    have hraised (hl : k.sync = .locked) {event : Option ShaftEvent} (he : eventOf m d k.angle 1 = event) :
        out = .next (((s.elapse dt).moved d lv).raise event).follow := by
      rw [hout, State.count_of_locked (s := s.elapse dt) hl, ← he]
      rfl
    refine ⟨e, (s.elapse dt).moved d lv, hrolling, hmoved, hcalm, haligning, fun hu => ?_,
      fun hl => ⟨fun hd => ⟨fun ha => ?_, fun ha hul => ?_, fun ha hul => ?_⟩,
        fun hd => ⟨fun ha => ?_, fun ha hul => ?_, fun ha hul => ?_⟩⟩⟩
    · rw [hout, State.count_of_unlocked (s := s.elapse dt) hu]
    all_goals subst hd
    · exact ⟨_, State.forwardCrossing_crosses _, hraised hl (eventOf_forward_wrap (by omega))⟩
    · exact ⟨_, State.underlapArrival_passes _, hraised hl (eventOf_forward_underlap (by omega) (by omega) (by omega))⟩
    · exact hraised hl (eventOf_forward_none (by omega) (by omega))
    · exact ⟨_, State.backwardCrossing_crosses _, hraised hl (eventOf_backward_wrap (by omega))⟩
    · exact ⟨_, State.underlapDeparture_passes _, hraised hl (eventOf_backward_underlap ha (by omega) (by omega))⟩
    · exact hraised hl (eventOf_backward_none ha (by omega))
  · -- The motions that an encoder error ends.
    intro k lost
    refine ⟨(s.elapse dt).erred, ((s.elapse dt).erred.report .encoderError 0 0).restless, rfl, fun b hb => ?_, ?_, ?_⟩
    · exact State.channel_erred (s := s.elapse dt) hb
    · exact State.endMotions_moved (by rw [State.report_channels_length, State.erred_channels_length]; exact hs.1)
    · rw [exec_encoderError hq, State.encoderError_eq]

end Sys2Proof.Machine
end

section
/-! PROOF. The settings requests (02): the judging of their fields, their refusals, and the records and assignments in force. -/

namespace Sys2Proof.Machine

/-! ### A request on a quiet part with a free port -/

theorem exec_accepted {c : Instr} {tag : Tag} {r : Request} (hc : requestOf c = some ⟨tag, r⟩) {s t : State} {a : Answer}
    (hq : s.Quiet) (hp : s.PortFree) (hh : (s.taken tag r).handle r = (t, a)) (hd : t.dueStep = none) :
    exec c s = .next (t.answered tag r a.result a.payload) := by
  rw [exec_of_requestOf hc, State.goesOn, State.event_of_quiet hq, State.request_of_free hq hp,
    State.answer_of_handle hh hd]

theorem exec_refused {c : Instr} {tag : Tag} {r : Request} (hc : requestOf c = some ⟨tag, r⟩) {s : State} {a : Answer}
    (hq : s.Quiet) (hp : s.PortFree) (hh : (s.taken tag r).handle r = (s.taken tag r, a)) :
    exec c s = .next (s.replies tag r a.result a.payload) :=
  exec_accepted hc hq hp hh hq.2.2

/-! ### The fields of a record (02, R20, R21, R25) -/

theorem firstFalse_eq_none_iff_getElem? (l : List Bool) : firstFalse 0 l = none ↔ ∀ i : Nat, l[i]? ≠ some false := by
  rw [firstFalse_eq_none]
  constructor
  · intro h i hi
    cases h false (List.mem_of_getElem? hi)
  · intro h x hx
    obtain ⟨i, hi⟩ := List.mem_iff_getElem?.mp hx
    cases x with
    | true => rfl
    | false => exact absurd hi (h i)

theorem firstFalse_zero_eq_some (l : List Bool) (i : Nat) :
    firstFalse 0 l = some i ↔ l[i]? = some false ∧ ∀ j, j < i → l[j]? = some true := by
  simp [firstFalse_eq_some]

theorem within_iff (low high v : Nat) : within low high v = true ↔ low ≤ v ∧ v ≤ high := by
  simp [within]

/-- Settles O14: the refusal names the first check that fails, and the checks of the four window limits, each against the limit
before it, come to the one constraint of R21. -/
theorem machineRecordIsJudgedInOrder : Obligations.MachineRecordIsJudgedInOrder := by
  refine ⟨fun m i => firstFalse_zero_eq_some _ i, fun m => ?_⟩
  rw [badMachineField, firstFalse_eq_none]
  simp only [machineChecks, List.forall_mem_cons, List.not_mem_nil, false_implies, implies_true, and_true, within_iff,
    Bool.or_eq_true, beq_iff_eq]
  omega

/-- The range of each field of SET PROFILE, the profile number first (02, section 2.3). -/
def ProfileFieldGood (n : Nat) (p : Profile) : Nat → Prop
  | 0 => n ≤ 7
  | 1 => 10 ≤ p.accel ∧ p.accel ≤ 500
  | 2 => 100 ≤ p.speed ∧ p.speed ≤ 5000
  | 3 => 1 ≤ p.travel ∧ p.travel ≤ 63
  | 4 => 4 ≤ p.homing ∧ p.homing ≤ 200
  | 5 => 1000 ≤ p.search ∧ p.search ≤ 400000
  | _ => p.zeroOffset ≤ 50000

/-- A check of SET PROFILE holds exactly when its field is in range. -/
theorem profileChecks_getElem? (n : Nat) (p : Profile) (i : Nat) (b : Bool) :
    (profileChecks n p)[i]? = some b ↔ i ≤ 6 ∧ (b = true ↔ ProfileFieldGood n p i) := by
  match i with
  | 0 | 1 | 2 | 3 | 4 | 5 | 6 => cases b <;> simp [profileChecks, ProfileFieldGood, within]
  | i + 7 => simp [profileChecks]

theorem badProfileField_eq_none (n : Nat) (p : Profile) :
    badProfileField n p = none ↔ ∀ i, i ≤ 6 → ProfileFieldGood n p i := by
  simp [badProfileField, firstFalse_eq_none_iff_getElem?, profileChecks_getElem?]

theorem badProfileField_eq_some (n : Nat) (p : Profile) (i : Nat) :
    badProfileField n p = some i ↔ i ≤ 6 ∧ ¬ProfileFieldGood n p i ∧ ∀ j, j < i → ProfileFieldGood n p j := by
  simp only [badProfileField, firstFalse_zero_eq_some, profileChecks_getElem?, Bool.false_eq_true, false_iff, true_iff,
    and_assoc]
  exact and_congr_right fun hi => and_congr_right fun _ => forall₂_congr fun j hj => and_iff_right (by omega)

/-! ### The entries of ASSIGN BARS (02, R28) -/

theorem badEntry_iff (before : List AssignEntry) (e : AssignEntry) : badEntry before e = true ↔
    e.bar < 1 ∨ 64 < e.bar ∨ (7 < e.profile ∧ e.profile ≠ 255) ∨ ∃ y ∈ before, y.bar = e.bar := by
  simp only [badEntry, barExists, Bool.or_eq_true, Bool.not_eq_true', Bool.and_eq_false_iff, decide_eq_false_iff_not,
    Bool.or_eq_false_iff, beq_eq_false_iff_ne, List.any_eq_true, beq_iff_eq, Nat.not_le, or_assoc, ne_eq]

theorem badAssignEntry_eq_some {es : List AssignEntry} {i : Nat} {e : AssignEntry} (he : es[i]? = some e)
    (hbad : badEntry (es.take i) e = true)
    (hfirst : ∀ j x, j < i → es[j]? = some x → ¬badEntry (es.take j) x = true) : badAssignEntry es = some i :=
  (firstBad_eq_some badEntry es 0 [] i).mpr
    ⟨i, e, (Nat.zero_add i).symm, he, hbad, fun j hj x hx => by simpa using hfirst j x hj hx⟩

/-- In a good list each entry names a bar from 1 to 64. -/
theorem barExists_of_good {es : List AssignEntry} (h : badAssignEntry es = none) {e : AssignEntry} (he : e ∈ es) :
    barExists e.bar = true := by
  obtain ⟨i, hi⟩ := List.mem_iff_getElem?.mp he
  have hgood := (firstBad_eq_none badEntry es 0 []).mp h i e hi
  cases hb : barExists e.bar with
  | true => rfl
  | false => simp [badEntry, hb] at hgood

/-- In a good list the entries name bars that differ. -/
theorem pairwise_bar_of_good {es : List AssignEntry} (h : badAssignEntry es = none) :
    es.Pairwise fun x y => x.bar ≠ y.bar := by
  rw [List.pairwise_iff_getElem]
  intro i j hi hj hij heq
  have hgood := (firstBad_eq_none badEntry es 0 []).mp h j es[j] (List.getElem?_eq_getElem hj)
  have hmem : es[i] ∈ es.take j := List.mem_take_iff_getElem.mpr ⟨i, by omega, rfl⟩
  rw [List.nil_append, (badEntry_iff _ _).mpr (.inr (.inr (.inr ⟨_, hmem, heq⟩)))] at hgood
  cases hgood

/-! ### The refusals (02, R19) -/

section

variable {s : State}

theorem State.settingsRefusal_of_standby (hs : s.run.state = .standby) (hc : s.run.changing = false) :
    s.settingsRefusal = none := by
  simp [State.settingsRefusal, hs, hc]

theorem State.settingsRefusal_eq_some {r : Result}
    (h : (s.run.state ≠ .standby ∧ r = .wrongState) ∨ (s.run.state = .standby ∧ s.run.changing = true ∧ r = .busy)) :
    s.settingsRefusal = some r := by
  rcases h with ⟨hs, rfl⟩ | ⟨hs, hc, rfl⟩
  · simp [State.settingsRefusal, hs]
  · simp [State.settingsRefusal, hs, hc]

theorem State.setMachine_of_refusal {r : Result} (h : s.settingsRefusal = some r) (m : MachineRecord) :
    s.setMachine m = (s, refuse r) := by
  simp [State.setMachine, h]

theorem State.setProfile_of_refusal {r : Result} (h : s.settingsRefusal = some r) (n : Nat) (p : Profile) :
    s.setProfile n p = (s, refuse r) := by
  simp [State.setProfile, h]

theorem State.assignBars_of_refusal {r : Result} (h : s.settingsRefusal = some r) (es : List AssignEntry) :
    s.assignBars es = (s, refuse r) := by
  simp [State.assignBars, h]

theorem State.setMachine_of_badField (h : s.settingsRefusal = none) {m : MachineRecord} {i : Nat}
    (hi : badMachineField m = some i) : s.setMachine m = (s, badField i) := by
  simp [State.setMachine, h, hi]

theorem State.setProfile_of_badField (h : s.settingsRefusal = none) {n : Nat} {p : Profile} {i : Nat}
    (hi : badProfileField n p = some i) : s.setProfile n p = (s, badField i) := by
  simp [State.setProfile, h, hi]

theorem State.assignBars_of_badLength (h : s.settingsRefusal = none) {es : List AssignEntry}
    (hl : es.length = 0 ∨ 64 < es.length) : s.assignBars es = (s, refuse .badLength) := by
  have hlength : (decide (es.length < 1) || decide (64 < es.length)) = true := by
    simpa [Nat.lt_one_iff] using hl
  simp only [State.assignBars, h, hlength, if_true]

theorem assignBars_goodLength {es : List AssignEntry} (h1 : 1 ≤ es.length) (h64 : es.length ≤ 64) :
    (decide (es.length < 1) || decide (64 < es.length)) = false := by
  simp only [Bool.or_eq_false_iff, decide_eq_false_iff_not]; omega

theorem State.assignBars_of_badEntry (h : s.settingsRefusal = none) {es : List AssignEntry} (h1 : 1 ≤ es.length)
    (h64 : es.length ≤ 64) {i : Nat} (hi : badAssignEntry es = some i) : s.assignBars es = (s, badField i) := by
  simp only [State.assignBars, h, assignBars_goodLength h1 h64, hi, Bool.false_eq_true, if_false]

theorem State.assignBars_of_good (h : s.settingsRefusal = none) {es : List AssignEntry} (h1 : 1 ≤ es.length)
    (h64 : es.length ≤ 64) (hgood : badAssignEntry es = none) : s.assignBars es = (s.applyAssignment es, accept []) := by
  simp only [State.assignBars, h, assignBars_goodLength h1 h64, hgood, Bool.false_eq_true, if_false]

end

/-- Settles O15: each refusal leaves the part as it took the request; the bad entry and the bad field are the first. -/
theorem settingsRefusalsChangeNothing : Obligations.SettingsRefusalsChangeNothing := by
  refine ⟨fun tag m n p es s hq hp => ⟨fun r hr => ?_, fun hs hc => ?_⟩, fun n p => ?_⟩
  · have hrefused : ∀ w : Request, (s.taken tag w).settingsRefusal = some r := fun w =>
      State.settingsRefusal_eq_some (s := s.taken tag w) hr
    exact ⟨exec_refused (r := .setMachine m) rfl hq hp (State.setMachine_of_refusal (hrefused _) m),
      exec_refused (r := .setProfile n p) rfl hq hp (State.setProfile_of_refusal (hrefused _) n p),
      exec_refused (r := .assignBars es) rfl hq hp (State.assignBars_of_refusal (hrefused _) es)⟩
  · have hjudged : ∀ w : Request, (s.taken tag w).settingsRefusal = none := fun w =>
      State.settingsRefusal_of_standby (s := s.taken tag w) hs hc
    refine ⟨fun i hi => exec_refused (r := .setMachine m) rfl hq hp (State.setMachine_of_badField (hjudged _) hi),
      fun i hi => exec_refused (r := .setProfile n p) rfl hq hp (State.setProfile_of_badField (hjudged _) hi),
      fun hl => exec_refused (r := .assignBars es) rfl hq hp (State.assignBars_of_badLength (hjudged _) hl), ?_⟩
    intro i e h1 h64 he bad hbad hfirst
    have hi : badAssignEntry es = some i := badAssignEntry_eq_some he ((badEntry_iff _ e).mpr hbad)
      fun j x hj hx hbefore => hfirst j x hj hx ((badEntry_iff _ x).mp hbefore)
    exact exec_refused (r := .assignBars es) rfl hq hp (State.assignBars_of_badEntry (hjudged _) h1 h64 hi)
  · exact ⟨badProfileField_eq_none n p, badProfileField_eq_some n p⟩

/-! ### What the tracker does with a new machine record (01, R2, R11, R14, R15; 02, R22) -/

/-- A new index angle ends the lock, and the checking (01, R11). -/
def State.indexJudged (s : State) (old : MachineRecord) : State :=
  if old.indexAngle = s.machine.indexAngle then s
  else
    match s.tracker.sync with
    | .locked => s.leaveLocked.changeSync .seekingIndex s.tracker.angle s.tracker.travel .settingsChanged s.tracker.angle
    | .checking => s.changeSync .seekingIndex s.tracker.angle s.tracker.travel .settingsChanged s.tracker.angle
    | .noSignal | .seekingIndex => s

section

variable {s : State} {old : MachineRecord} (hnew : old.indexAngle ≠ s.machine.indexAngle)

include hnew

theorem State.indexJudged_of_locked (h : s.tracker.sync = .locked) : s.indexJudged old =
    s.leaveLocked.changeSync .seekingIndex s.tracker.angle s.tracker.travel .settingsChanged s.tracker.angle := by
  rw [State.indexJudged, if_neg hnew, h]

theorem State.indexJudged_of_checking (h : s.tracker.sync = .checking) : s.indexJudged old =
    s.changeSync .seekingIndex s.tracker.angle s.tracker.travel .settingsChanged s.tracker.angle := by
  rw [State.indexJudged, if_neg hnew, h]

theorem State.indexJudged_of_searching (h : s.tracker.sync = .noSignal ∨ s.tracker.sync = .seekingIndex) :
    s.indexJudged old = s := by
  rcases h with h | h <;> rw [State.indexJudged, if_neg hnew, h]

end

/-- In LOCKED a new ul_start judges the side again (01, R2). -/
def State.sideJudged (s : State) (old m : MachineRecord) : State :=
  if old.ulStart ≠ m.ulStart && s.tracker.sync = .locked then
    s.updTracker fun t => { t with side := some (sideOf m t.angle) }
  else s

theorem State.sideJudged_of_unlocked {s : State} (h : s.tracker.sync ≠ .locked) (old m : MachineRecord) :
    s.sideJudged old m = s := by
  simp [State.sideJudged, h]

theorem State.sideJudged_eq (s : State) (old m : MachineRecord) :
    s.sideJudged old m = s.updTracker fun t => { t with
      side := if m.ulStart ≠ old.ulStart ∧ t.sync = .locked then some (if t.angle < m.ulStart then .lower else .upper)
        else t.side } := by
  have hside : ∀ angle : Nat, sideOf m angle = if angle < m.ulStart then .lower else .upper := fun angle => by
    by_cases h : angle < m.ulStart
    · rw [sideOf, if_pos h, if_neg (by omega)]
    · rw [sideOf, if_neg h, if_pos (by omega)]
  by_cases h : m.ulStart ≠ old.ulStart ∧ s.tracker.sync = .locked
  · rw [State.updTracker, if_pos h, State.sideJudged, if_pos (by simp [h.1.symm, h.2]), State.updTracker, hside]
  · rw [State.updTracker, if_neg h, State.sideJudged, if_neg]
    simp only [Bool.and_eq_true, decide_eq_true_eq]
    exact fun hj => h ⟨hj.1.symm, hj.2⟩

/-- A new stop-detect time that the stop timer has reached makes a MOVING shaft STOPPED (01, R15). -/
def State.stopJudged (s : State) (old m : MachineRecord) : State :=
  if old.stopDetect ≠ m.stopDetect && !s.tracker.stopped && s.stopDue ≤ s.now then s.goStopped else s

theorem State.settingsChanged_eq (s : State) (old : MachineRecord) :
    s.settingsChanged old = ((s.indexJudged old).sideJudged old s.machine).stopJudged old s.machine := rfl

/-- The flag after a new stop-detect time (01, R15). -/
def Tracker.stoppedUnder (k : Tracker) (old m : MachineRecord) (now : Nat) : Bool :=
  if m.stopDetect ≠ old.stopDetect ∧ k.countedAt + 1000 * m.stopDetect ≤ now then true else k.stopped

/-- In STANDBY the flag alone changes: the stopped check and the coasting channels are for RUN and HALT. -/
theorem State.stopJudged_of_standby {s : State} (hs : s.run.state = .standby) {old m : MachineRecord} (hm : s.machine = m) :
    s.stopJudged old m = s.updTracker fun t => { t with stopped := t.stoppedUnder old m s.now } := by
  have hgo : s.goStopped = s.updTracker fun t => { t with stopped := true } :=
    (State.goStopped_of_ne_halt (by simp [hs])).trans (State.stoppedCheck_of_ne_run (by simp [hs]))
  have hflag (h : s.tracker.stopped = true) :
      s = s.updTracker fun t => { t with stopped := true } := by rw [State.updTracker, ← h]
  by_cases hnew : m.stopDetect ≠ old.stopDetect ∧ s.tracker.countedAt + 1000 * m.stopDetect ≤ s.now
  · have hunder : s.tracker.stoppedUnder old m s.now = true := if_pos hnew
    have hdue : s.stopDue ≤ s.now := by rw [State.stopDue, hm]; exact hnew.2
    rw [State.updTracker, hunder]
    cases hstopped : s.tracker.stopped with
    | true => rw [State.stopJudged, if_neg (by simp [hstopped])]; exact hflag hstopped
    | false => rw [State.stopJudged, if_pos (by simp [hstopped, hnew.1.symm, hdue])]; exact hgo
  · have hunder : s.tracker.stoppedUnder old m s.now = s.tracker.stopped := if_neg hnew
    rw [State.updTracker, hunder, State.stopJudged, if_neg]
    simp only [State.stopDue, hm, Bool.and_eq_true, decide_eq_true_eq]
    exact fun h => hnew ⟨h.1.1.symm, h.2⟩

section

variable {s : State} {m : MachineRecord}

theorem State.setMachine_of_good (h : s.settingsRefusal = none) (hm : badMachineField m = none) :
    s.setMachine m = (State.settingsChanged { s with machine := m } s.machine, accept []) := by
  simp [State.setMachine, h, hm]

theorem State.setProfile_of_good (h : s.settingsRefusal = none) {n : Nat} {p : Profile}
    (hp : badProfileField n p = none) :
    s.setProfile n p = ({ s with profiles := s.profiles.set n p }, accept []) := by
  simp [State.setProfile, h, hp]

/-- SET MACHINE accepted in STANDBY: the tracker acts on the record in force, and nothing comes due (02, R22). -/
theorem exec_setMachine_of_good (hq : s.Quiet) (hp : s.PortFree) (hs : s.run.state = .standby)
    (hc : s.run.changing = false) (hm : badMachineField m = none) (tag : Tag) :
    let u : State := { s.taken tag (.setMachine m) with machine := m }
    exec (.setMachine tag m) s = .next
      ((((u.indexJudged s.machine).sideJudged s.machine m).updTracker fun t =>
        { t with stopped := t.stoppedUnder s.machine m s.now }).answered tag (.setMachine m) .ok []) := by
  intro u
  have hindex : (u.indexJudged s.machine).run = s.run ∧ (u.indexJudged s.machine).machine = m ∧
      (u.indexJudged s.machine).now = s.now := by
    unfold State.indexJudged
    (repeat' split) <;> simp [u, State.taken]
  obtain ⟨hrun, hmachine, hnow⟩ := hindex
  have hside : ((u.indexJudged s.machine).sideJudged s.machine m).run = s.run ∧
      ((u.indexJudged s.machine).sideJudged s.machine m).machine = m ∧
      ((u.indexJudged s.machine).sideJudged s.machine m).now = s.now := by
    unfold State.sideJudged
    split <;> simp [hrun, hmachine, hnow]
  obtain ⟨hrun, hmachine, hnow⟩ := hside
  have hchanged : u.settingsChanged s.machine = ((u.indexJudged s.machine).sideJudged s.machine m).updTracker fun t =>
      { t with stopped := t.stoppedUnder s.machine m s.now } := by
    rw [State.settingsChanged_eq, State.stopJudged_of_standby (by rw [hrun]; exact hs) hmachine, hnow]
  refine exec_accepted (r := .setMachine m) (a := accept []) rfl hq hp ?_ ?_
  · rw [← hchanged]
    exact State.setMachine_of_good (State.settingsRefusal_of_standby hs hc) hm
  · exact State.dueStep_standby (by simpa [hrun] using hs) (by simpa [hrun] using hc)

end

/-- Settles O13: with the index angle kept the side and the stop timer alone are judged anew. -/
theorem acceptedSettingsAreInForce : Obligations.AcceptedSettingsAreInForce := by
  refine ⟨fun tag m s hq hp hs hc hm hi => ?_, fun tag n p s hq hp hs hc hgood => ?_⟩
  · rw [exec_setMachine_of_good hq hp hs hc hm tag]
    have hindex : State.indexJudged { s.taken tag (.setMachine m) with machine := m } s.machine =
        { s.taken tag (.setMachine m) with machine := m } := if_pos hi.symm
    rw [hindex, State.sideJudged_eq]
    rfl
  · exact exec_accepted (r := .setProfile n p) (a := accept []) rfl hq hp
      (State.setProfile_of_good (State.settingsRefusal_of_standby (s := s.taken tag _) hs hc) hgood)
      (State.dueStep_standby hs hc)

/-! ### A new index angle (01, R11, R14) -/

/-- A notice offered before or after a request is taken finds the same queue. -/
theorem State.taken_offer (s : State) (tag : Tag) (r : Request) (n : Notice) :
    (s.taken tag r).link.offer n = (State.taken { s with link := s.link.offer n } tag r).link := by
  by_cases h : s.link.notices.length < Config.noticeRoom <;> simp [State.taken, State.updLink, Link.offer, h]

theorem State.changeSync_taken (s : State) (tag : Tag) (r : Request) (next : SyncState) (angle : Nat) (travel : Int)
    (cause : SyncCause) (before : Nat) :
    (s.taken tag r).changeSync next angle travel cause before = (s.changeSync next angle travel cause before).taken tag r := by
  simp only [State.changeSync_eq, State.taken_offer]
  rfl

/-- Settles O16: the sync state says what the new index angle ends; the side is judged in LOCKED alone, which is left. -/
theorem newIndexAngleEndsTheLock : Obligations.NewIndexAngleEndsTheLock := by
  intro tag m s hq hp hs hc hm hi stopped changed
  rw [exec_setMachine_of_good hq hp hs hc hm tag]
  generalize hu : ({ s with machine := m } : State) = u
  have htaken : ({ s.taken tag (.setMachine m) with machine := m } : State) = u.taken tag (.setMachine m) := by
    rw [← hu]; rfl
  have hnew : s.machine.indexAngle ≠ (u.taken tag (.setMachine m)).machine.indexAngle := by
    rw [← hu]; exact hi.symm
  have hsync : (u.taken tag (.setMachine m)).tracker.sync = s.tracker.sync := by rw [← hu]; rfl
  rw [htaken]
  refine ⟨fun h => ?_, fun h => ?_, fun h => ?_⟩
  · have hleft : (u.taken tag (.setMachine m)).leaveLocked = u.leaveLocked.taken tag (.setMachine m) := rfl
    rw [State.indexJudged_of_locked hnew (hsync.trans h), hleft, State.changeSync_taken,
      State.sideJudged_of_unlocked (by simp [State.taken, State.changeSync_eq])]
    refine ⟨u.endFollowing.channels, ?_, fun b hb => ?_⟩
    · rw [State.changeSync_eq, ← h, ← hu]; rfl
    · have hsame : u.channel b = s.channel b := by rw [← hu]; rfl
      have hchannel := State.channel_endFollowing (s := u) hb
      rw [hsame] at hchannel
      split
      next hf =>
        rw [if_pos hf] at hchannel
        exact ⟨congrArg Channel.state hchannel, (congrArg Channel.setpoint hchannel).trans rfl⟩
      next hf => rw [if_neg hf] at hchannel; exact hchannel
  · rw [State.indexJudged_of_checking hnew (hsync.trans h), State.changeSync_taken,
      State.sideJudged_of_unlocked (by simp [State.taken, State.changeSync_eq]), State.changeSync_eq, ← h, ← hu]
    rfl
  · have hunlocked : (u.taken tag (.setMachine m)).tracker.sync ≠ .locked := by
      rw [hsync]; rcases h with h | h <;> simp [h]
    rw [State.indexJudged_of_searching hnew (by rw [hsync]; exact h), State.sideJudged_of_unlocked hunlocked, ← hu]
    rfl

/-! ### The assignment in force (02, R28 to R30) -/

theorem assignAll_cons (table : List (Option Nat)) (e : AssignEntry) (es : List AssignEntry) :
    assignAll table (e :: es) = assignAll (table.set (e.bar - 1) (assignValue e)) es := rfl

/-- A place that no entry names keeps its assignment. -/
theorem assignAll_getD_of_unnamed {es : List AssignEntry} {i : Nat} (h : ∀ e ∈ es, e.bar - 1 ≠ i)
    (table : List (Option Nat)) : (assignAll table es).getD i none = table.getD i none := by
  induction es generalizing table with
  | nil => rfl
  | cons e es ih =>
    obtain ⟨he, hes⟩ := List.forall_mem_cons.mp h
    rw [assignAll_cons, ih hes]
    simp [List.getD, List.getElem?_set_ne he]

/-- Of entries that name places apart, each one gives its place its assignment. -/
theorem assignAll_getD_of_named {es : List AssignEntry} (hapart : es.Pairwise fun x y => x.bar - 1 ≠ y.bar - 1)
    {e : AssignEntry} (he : e ∈ es) {table : List (Option Nat)} (hplace : e.bar - 1 < table.length) :
    (assignAll table es).getD (e.bar - 1) none = assignValue e := by
  induction es generalizing table with
  | nil => cases he
  | cons x es ih =>
    obtain ⟨hx, hes⟩ := List.pairwise_cons.mp hapart
    rw [assignAll_cons]
    rcases List.mem_cons.mp he with rfl | he
    · rw [assignAll_getD_of_unnamed fun y hy => (hx y hy).symm]
      simp [List.getD, hplace]
    · exact ih hes he (by simpa using hplace)

/-- An accepted assignment changes the table, each channel by its assignment before and after, and an open stream one of whose
bars is now ABSENT (02, R28 to R30). -/
theorem State.applyAssignment_eq (s : State) (es : List AssignEntry) : s.applyAssignment es = { s with
    assign := assignAll s.assign es
    channels := mapFrom (fun b => reassigned (s.profileNumber b) ((assignAll s.assign es).getD (b - 1) none)) 1 s.channels
    lists :=
      if s.lists.streamOpen = true ∧ (∃ b ∈ s.lists.streamBars, (assignAll s.assign es).getD (b - 1) none = none) then
        { s.lists with streamOpen := false, streamBars := [], expected := none }
      else s.lists } := by
  unfold State.applyAssignment State.examineStream
  dsimp only
  split
  next h => rw [if_pos (by simpa [State.assigned, State.profileNumber] using h)]; rfl
  next h => rw [if_neg (by simpa [State.assigned, State.profileNumber] using h)]; rfl

theorem reassigned_of_assigned (c : Channel) : ∀ {before after : Option Nat}, before.isSome = false → after.isSome = true →
    reassigned before after c = toOff c
  | none, some _, _, _ => rfl

theorem reassigned_of_absent (c : Channel) : ∀ {before after : Option Nat}, before.isSome = true → after.isSome = false →
    reassigned before after c = toAbsent c
  | some _, none, _, _ => rfl

theorem reassigned_of_same (c : Channel) : ∀ {before after : Option Nat}, before.isSome = after.isSome →
    reassigned before after c = c
  | none, none, _ | some _, some _, _ => rfl

/-- Settles O17: the entries name bars that differ, so each gives its own place of the table; each channel moves by its assignment
before and after. -/
theorem assignBarsMovesTheChannels : Obligations.AssignBarsMovesTheChannels := by
  intro tag es s hq hp hs hc h1 h64 hgood hsized
  obtain ⟨hchannels, hassign, hprofiles, hblocks⟩ := hsized
  refine ⟨assignAll s.assign es,
    mapFrom (fun b => reassigned (s.profileNumber b) ((assignAll s.assign es).getD (b - 1) none)) 1 s.channels, ?_⟩
  intro t
  have hbar : ∀ b, barExists b = true → 1 ≤ b ∧ b ≤ 64 := fun b hb => by simpa [barExists] using hb
  have happlied : (s.taken tag (.assignBars es)).applyAssignment es = t.taken tag (.assignBars es) :=
    State.applyAssignment_eq _ es
  have hchannel : ∀ b, barExists b = true →
      t.channel b = reassigned (s.profileNumber b) (t.profileNumber b) (s.channel b) := fun b hb =>
    State.channel_mapChannels (s := s) (hbar b hb).1 (by have := hbar b hb; omega)
      fun b => reassigned (s.profileNumber b) (t.profileNumber b)
  refine ⟨?_, ⟨?_, ?_, hprofiles, hblocks⟩, fun e he => ?_, fun b hb hnone => ?_, fun b hb hbefore hafter => ?_,
    fun b hb hbefore hafter => ?_, fun b hb hsame => ?_⟩
  · refine exec_accepted (r := .assignBars es) (a := accept []) rfl hq hp ?_ (State.dueStep_standby hs hc)
    have hjudged := State.settingsRefusal_of_standby (s := s.taken tag (.assignBars es)) hs hc
    rw [← happlied]
    exact State.assignBars_of_good hjudged h1 h64 hgood
  · exact (mapFrom_length _ _ _).trans hchannels
  · exact (assignAll_length _ _).trans hassign
  · have hapart : es.Pairwise fun x y => x.bar - 1 ≠ y.bar - 1 :=
      (pairwise_bar_of_good hgood).imp_of_mem fun hx hy hne => by
        have := hbar _ (barExists_of_good hgood hx)
        have := hbar _ (barExists_of_good hgood hy)
        omega
    have := hbar _ (barExists_of_good hgood he)
    exact assignAll_getD_of_named hapart he (by omega)
  · refine assignAll_getD_of_unnamed (fun e he => ?_) s.assign
    have := hbar _ (barExists_of_good hgood he)
    have := hbar b hb
    have := hnone e he
    omega
  · rw [hchannel b hb, reassigned_of_assigned _ hbefore hafter]
    exact ⟨rfl, rfl, rfl, rfl⟩
  · rw [hchannel b hb, reassigned_of_absent _ hbefore hafter]
    exact ⟨rfl, rfl, rfl, rfl, rfl, rfl, rfl, rfl⟩
  · rw [hchannel b hb, reassigned_of_same _ hsame]

end Sys2Proof.Machine
end

section
/-! PROOF. What each command leaves alone of the settings, the stored cells and the tracker. These are the `Parts` of a state:
each operation of the model, in the order of the definitions, leaves them all, or all but those that it owns. -/

namespace Sys2Proof.Machine

/-! ### The store without what feeding and reading move, and the port without its notices -/

/-- A block entry without its pins. -/
def Block.unpinned (b : Block) : Block := { b with pins := 0 }

/-- The store without its pins, its readback cursor and the start of its check. -/
def Store.unpinned (st : Store) : Store :=
  { st with blocks := st.blocks.map Block.unpinned, checkFrom := 0, readCursor := none }

/-- The port without its notices. -/
def Link.port (l : Link) : Link := { l with notices := [], overflow := false }

theorem State.block_unpinned (s : State) (id : Nat) : (s.block id).unpinned = s.store.unpinned.blocks.getD id Block.vacant := by
  simp only [State.block, Store.unpinned, List.getD, List.getElem?_map]
  cases s.store.blocks[id]? <;> rfl

@[simp] theorem Link.port_offer (l : Link) (n : Notice) : (l.offer n).port = l.port := by
  rw [Link.offer_frame]; rfl

theorem map_mapFrom_of_eq {α β : Type} {g : α → β} {f : Nat → α → α} (h : ∀ i x, g (f i x) = g x) (n : Nat)
    (l : List α) : (mapFrom f n l).map g = l.map g := by
  induction l generalizing n with
  | nil => rfl
  | cons x xs ih => simp [mapFrom, h, ih]

theorem State.updNamed_unpinned (s : State) (table : List SeqStep) {f : Block → Block}
    (hf : ∀ b, (f b).unpinned = b.unpinned) : (s.updNamed table f).store.unpinned = s.store.unpinned := by
  have hblocks := map_mapFrom_of_eq (g := Block.unpinned) (f := fun id b => if namesBlock table id then f b else b)
    (fun id b => by split <;> simp [hf]) 0 s.store.blocks
  simp only [State.updNamed, State.updStore_store, Store.unpinned, hblocks]

@[simp] theorem State.pin_unpinned (s : State) (table : List SeqStep) : (s.pin table).store.unpinned = s.store.unpinned :=
  s.updNamed_unpinned table fun _ => rfl

@[simp] theorem State.unpinOld_unpinned (s : State) (table : Option (List SeqStep)) :
    (s.unpinOld table).store.unpinned = s.store.unpinned := by
  cases table with
  | none => rfl
  | some table => exact s.updNamed_unpinned table fun _ => rfl

/-! ### The reports and the ends of motions leave the port -/

@[simp] theorem State.append_port (s : State) (g : Tag) (o : Origin) (c : Option Nat) (l : List RawLap) :
    (s.append g o c l).link.port = s.link.port := by
  have hinfeasible (u : State) (r n : CourseRecord) (k : Ceiling) : (u.reportInfeasible r n k).link.port = u.link.port := by
    unfold State.reportInfeasible; (repeat' split) <;> simp
  unfold State.append
  split <;> simp [State.giveCeiling, hinfeasible]

@[simp] theorem State.endJogs_port (s : State) (o : JogOutcome) (f : Channel → Channel) :
    (s.endJogs o f).link.port = s.link.port := by
  have hjog (u : State) (b : Nat) : (u.endJog b o f).link.port = u.link.port := by
    unfold State.endJog State.notifyJogDone; (repeat' split) <;> simp
  unfold State.endJogs
  induction allBars generalizing s with
  | nil => rfl
  | cons b bs ih => rw [List.foldl_cons, ih, hjog]

@[simp] theorem State.finishRemaining_port (s : State) (o : RefOutcome) (f : Channel → Channel) :
    (s.finishRemaining o f).link.port = s.link.port := by
  unfold State.finishRemaining
  split <;> simp [State.endReferencing]

@[simp] theorem State.endMotions_port (s : State) (jo : JogOutcome) (ro : RefOutcome) (f g : Channel → Channel) :
    (s.endMotions jo ro f g).link.port = s.link.port := by
  unfold State.endMotions
  (repeat' split) <;> simp

@[simp] theorem State.stoppedCheck_port (s : State) : s.stoppedCheck.link.port = s.link.port := by
  unfold State.stoppedCheck State.reportRunEnd State.reportStarved
  (repeat' split) <;> simp

/-! ### Feeding leaves the store but for pins, and the port -/

@[simp] theorem State.takeSwitch_keeps_unpinned_port (s : State) (m : SwitchMode) :
    (s.takeSwitch m).store.unpinned = s.store.unpinned ∧ (s.takeSwitch m).link.port = s.link.port := by
  unfold State.takeSwitch
  split <;> simp

@[simp] theorem State.feedCourse_keeps_unpinned_port (s : State) (table : List SeqStep) (step : SeqStep) :
    (s.feedCourse table step).store.unpinned = s.store.unpinned ∧ (s.feedCourse table step).link.port = s.link.port := by
  unfold State.feedCourse
  dsimp only
  (repeat' split) <;> simp

@[simp] theorem State.feedOne_keeps_unpinned_port (s : State) :
    s.feedOne.store.unpinned = s.store.unpinned ∧ s.feedOne.link.port = s.link.port := by
  unfold State.feedOne
  (repeat' split) <;> simp [State.stopFeed]

@[simp] theorem State.feed_keeps_unpinned_port (s : State) :
    s.feed.store.unpinned = s.store.unpinned ∧ s.feed.link.port = s.link.port := by
  unfold State.feed
  induction Config.queueRoom + 1 generalizing s with
  | zero => exact ⟨rfl, rfl⟩
  | succ n ih => unfold State.feedUpTo; split <;> simp [ih]

/-! ### The parts that have commands of their own -/

/-- The settings, the store but for pins and readback, and the tracker. -/
structure Parts where
  machine : MachineRecord
  profiles : List Profile
  assign : List (Option Nat)
  store : Store
  tracker : Tracker

/-- The parts of a state. -/
def State.parts (s : State) : Parts := ⟨s.machine, s.profiles, s.assign, s.store.unpinned, s.tracker⟩

theorem State.parts_eq {s t : State} (hm : t.machine = s.machine) (hp : t.profiles = s.profiles) (ha : t.assign = s.assign)
    (hs : t.store.unpinned = s.store.unpinned) (ht : t.tracker = s.tracker) : t.parts = s.parts := by
  simp only [State.parts, hm, hp, ha, hs, ht]

/-! ### The run controller's own steps -/

@[simp] theorem State.perform_keeps_unpinned_port (s : State) (d : DueStep) :
    (s.perform d).store.unpinned = s.store.unpinned ∧ (s.perform d).link.port = s.link.port := by
  cases d with
  | enterHoldFromStandby => simp [State.perform, State.enterHoldFromStandby, State.enter, State.notifyReached]
  | alignmentStart => simp [State.perform]
  | enterRun => simp [State.perform, State.enterRun, State.enter, State.notifyReached]
  | enterHold => simp [State.perform, State.enterHold, State.enter, State.notifyReached]
  | enterStandby => simp [State.perform, State.enterStandby, State.enter, State.notifyReached]

@[simp] theorem State.takeDue_keeps_unpinned_port (s : State) :
    s.takeDue.store.unpinned = s.store.unpinned ∧ s.takeDue.link.port = s.link.port := by
  unfold State.takeDue
  split <;> simp

@[simp] theorem State.settleRun_keeps_unpinned_port (s : State) :
    s.settleRun.store.unpinned = s.store.unpinned ∧ s.settleRun.link.port = s.link.port := by
  simp [State.settleRun]

theorem State.perform_parts (s : State) (d : DueStep) : (s.perform d).parts = s.parts := by simp [State.parts]

theorem State.settleRun_parts (s : State) : s.settleRun.parts = s.parts := by simp [State.parts]

/-! ### The channels -/

theorem State.notifyView_parts (s : State) (b : Nat) (v : DriveView) : (s.notifyView b v).parts = s.parts := by
  unfold State.notifyView
  dsimp only
  (repeat' split) <;> rfl

theorem State.faultChannel_parts (s : State) (b : Nat) (c : Cause) (d e : Nat) (x : Int) :
    (s.faultChannel b c d e x).parts = s.parts := by simp [State.parts]

theorem State.faultUncompared_parts (s : State) (b : Nat) (c : Cause) (d : Nat) :
    (s.faultUncompared b c d).parts = s.parts := by simp [State.parts]

theorem State.endJog_parts (s : State) (b : Nat) (o : JogOutcome) (f : Channel → Channel) :
    (s.endJog b o f).parts = s.parts := by simp [State.parts]

theorem State.finishBar_parts (s : State) (b : Nat) (o : RefOutcome) : (s.finishBar b o).parts = s.parts := by
  simp [State.parts]

theorem State.updChannel_parts (s : State) (b : Nat) (f : Channel → Channel) : (s.updChannel b f).parts = s.parts := rfl

theorem State.judgeMissing_parts (s : State) (b : Nat) : (s.judgeMissing b).parts = s.parts := by
  unfold State.judgeMissing
  dsimp only
  split
  · split
    · rw [State.faultUncompared_parts, State.updChannel_parts]
    · rw [State.notifyView_parts, State.updChannel_parts]
  · split <;> rfl

theorem State.expire_parts (s : State) (b : Nat) (e : Expiry) : (s.expire b e).parts = s.parts := by
  cases e with
  | none | energize | hold => rfl
  | enable => exact s.faultUncompared_parts _ _ _
  | settle => exact s.endJog_parts _ _ _

theorem State.arrive_parts (s : State) (b : Nat) (a : Arrival) : (s.arrive b a).parts = s.parts := by
  cases a with
  | none | jog | alignment => rfl
  | zero => exact State.finishBar_parts _ _ _

theorem State.exchangeBar_parts (s : State) (b : Nat) : (s.exchangeBar b).parts = s.parts := by
  unfold State.exchangeBar
  split
  · rfl
  · rw [State.send, State.arrive_parts, State.updChannel_parts, State.beginExchange, State.expire_parts,
      State.updChannel_parts, State.judgeMissing_parts]
    rfl

theorem State.notFound_parts (s : State) (b : Nat) : (s.notFound b).parts = s.parts := by
  rw [State.notFound, State.finishBar_parts, State.updChannel_parts]

theorem State.goodStatus_parts (s : State) (b : Nat) (d : DriveStatus) : (s.goodStatus b d).parts = s.parts := by
  have hreferencing : (s.referencingStatus b d).parts = s.parts := by
    unfold State.referencingStatus
    dsimp only
    split
    · split
      · rfl
      · split
        · exact s.notFound_parts b
        · rfl
    · split
      · split
        · rfl
        · exact s.notFound_parts b
      · split
        · exact s.notFound_parts b
        · rfl
    · rfl
  have hjogging : (s.joggingStatus b d).parts = s.parts := by
    unfold State.joggingStatus
    split
    · split
      · exact s.endJog_parts _ _ _
      · rfl
    · rfl
  unfold State.goodStatus
  split
  · rfl
  · exact hreferencing
  · exact hjogging
  · rfl

theorem State.receiveStatus_parts (s : State) (line : DriveLine) (bytes : List Byte) :
    (s.receiveStatus line bytes).parts = s.parts := by
  have htake (b : Nat) (d : DriveStatus) : (s.takeStatus b d).parts = s.parts := by
    have htaken : (s.updChannel b (statusTaken d)).parts = s.parts := rfl
    unfold State.takeStatus
    dsimp only
    split
    · rfl
    · split
      · split
        · exact (State.faultUncompared_parts _ _ _ _).trans htaken
        · split
          · exact (State.faultUncompared_parts _ _ _ _).trans htaken
          · split
            · exact (State.faultChannel_parts _ _ _ _ _ _).trans htaken
            · exact (State.goodStatus_parts _ _ _).trans htaken
      · exact (State.notifyView_parts _ _ _).trans htaken
  unfold State.receiveStatus
  split
  · split
    · exact htake _ _
    · rfl
  · rfl

theorem State.expireAllowance_parts (s : State) : s.expireAllowance.parts = s.parts := by
  unfold State.expireAllowance
  split
  · rfl
  · simp [State.parts]

/-! ### The player's search, the port and the permit line -/

theorem State.endLocate_parts (s : State) : s.endLocate.parts = s.parts := by
  unfold State.endLocate
  split
  · rfl
  · simp [State.parts]

theorem State.gapTimeout_parts (s : State) : s.gapTimeout.parts = s.parts := by
  unfold State.gapTimeout; split <;> rfl

theorem State.permitFrame_parts (s : State) : s.permitFrame.parts = s.parts := by
  unfold State.permitFrame; split <;> rfl

theorem State.endStartUp_parts (s : State) : s.endStartUp.parts = s.parts := by
  unfold State.endStartUp; split <;> rfl

/-! ### The shaft moves the tracker alone -/

/-- Of the parts, the tracker alone may differ. -/
def State.TrackerMoves (s t : State) : Prop := t.parts = { s.parts with tracker := t.tracker }

theorem State.trackerMoves_iff (s t : State) : s.TrackerMoves t ↔ t.machine = s.machine ∧ t.profiles = s.profiles ∧
    t.assign = s.assign ∧ t.store.unpinned = s.store.unpinned := by
  simp [State.TrackerMoves, State.parts]

@[simp] theorem State.raise_unpinned (s : State) (e : Option ShaftEvent) :
    (s.raise e).store.unpinned = s.store.unpinned := by
  unfold State.raise
  split <;> simp [State.forwardCrossing, State.closeCourse]

theorem State.TrackerMoves.trans {s t u : State} (h : s.TrackerMoves t) (h' : t.TrackerMoves u) : s.TrackerMoves u := by
  rw [State.TrackerMoves] at h'
  rw [State.TrackerMoves, h', h]

theorem State.encoderError_trackerMoves (s : State) : s.TrackerMoves s.encoderError := by
  rw [State.trackerMoves_iff]
  unfold State.encoderError
  dsimp only
  (repeat' split) <;> simp

theorem State.sample_trackerMoves (s : State) (levels : Levels) : s.TrackerMoves (s.sample levels) := by
  have hcount (d : Direction) : s.TrackerMoves (s.count d levels) := by
    rw [State.trackerMoves_iff]
    unfold State.count
    dsimp only
    (repeat' split) <;> simp
  unfold State.sample
  split
  · rfl
  · exact hcount .forward
  · exact hcount .backward
  · exact s.encoderError_trackerMoves

theorem State.arriveIndex_trackerMoves (s : State) : s.TrackerMoves s.arriveIndex := by
  rw [State.trackerMoves_iff]
  unfold State.arriveIndex State.checkIndex State.lockedIndex
  dsimp only
  (repeat' split) <;> simp [State.correct_eq]

theorem State.goStopped_trackerMoves (s : State) : s.TrackerMoves s.goStopped := by
  rw [State.trackerMoves_iff]
  unfold State.goStopped
  dsimp only
  split <;> simp

theorem State.detectStop_trackerMoves (s : State) : s.TrackerMoves s.detectStop := by
  unfold State.detectStop
  split
  · rfl
  · exact (s.advanceTo s.stopDue).goStopped_trackerMoves

theorem State.settingsChanged_trackerMoves (s : State) (old : MachineRecord) : s.TrackerMoves (s.settingsChanged old) := by
  have hindex : s.TrackerMoves (s.indexJudged old) := by
    rw [State.trackerMoves_iff]
    unfold State.indexJudged
    (repeat' split) <;> simp
  have hside (u : State) (m : MachineRecord) : u.TrackerMoves (u.sideJudged old m) := by
    unfold State.sideJudged
    split <;> rfl
  have hstop (u : State) (m : MachineRecord) : u.TrackerMoves (u.stopJudged old m) := by
    unfold State.stopJudged
    split
    · exact u.goStopped_trackerMoves
    · rfl
  rw [State.settingsChanged_eq]
  exact (hindex.trans (hside _ _)).trans (hstop _ _)

/-! ### What each request owns -/

/-- The parts as a request may leave them: its own come from the state after, the others from the state before. -/
def Request.owned (r : Request) (before after : Parts) : Parts :=
  match r with
  | .setMachine _ => { before with machine := after.machine, tracker := after.tracker }
  | .setProfile _ _ => { before with profiles := after.profiles }
  | .assignBars _ => { before with assign := after.assign }
  | .defineBlock _ _ _ | .blockData _ _ _ | .dropBlock _ => { before with store := after.store }
  | _ => before

theorem Request.owned_self (r : Request) (p : Parts) : r.owned p p = p := by
  unfold Request.owned; split <;> rfl

theorem State.takeRecords_parts (rs : List SentRecord) (n : Nat) (s : State) : (takeRecords n rs s).1.parts = s.parts := by
  induction rs generalizing n s with
  | nil => rfl
  | cons r rs ih =>
    unfold takeRecords
    split
    · rfl
    · rw [ih]; simp [State.parts, State.takeRecord]

theorem State.switchSequence_parts (s : State) (mode : Nat) : (s.switchSequence mode).1.parts = s.parts := by
  rcases s.switchSequence_fst mode with e | e | ⟨m, e⟩ <;> rw [e]
  · rcases s.switchNow_fst with e | e <;> rw [e]
    simp [State.parts]
  · unfold State.switchTimed
    split <;> simp [State.parts]

theorem State.setRunState_parts (s : State) (code : Nat) : (s.setRunState code).1.parts = s.parts := by
  have htakeUp (u : State) (t : Target) : (u.takeUp t).parts = u.parts := by
    unfold State.takeUp
    (repeat' split) <;> simp [State.parts, State.cancelWait, State.startWait, State.enableAll]
  rcases s.setRunState_fst code with e | ⟨bad, t, e⟩ <;> rw [e]
  rw [State.settleRun_parts, htakeUp]
  rfl

/-- Whatever a request comes to, it leaves the parts that it does not own. -/
theorem State.handle_parts (s : State) (r : Request) : (s.handle r).1.parts = r.owned s.parts (s.handle r).1.parts := by
  have hrefused (h : (s.handle r).1 = s) : (s.handle r).1.parts = r.owned s.parts (s.handle r).1.parts := by
    rw [h, Request.owned_self]
  cases r with
  | setMachine m =>
    rcases s.setMachine_fst m with e | ⟨-, e⟩
    · exact hrefused e
    · obtain ⟨-, hprofiles, hassign, hstore⟩ := (State.trackerMoves_iff _ _).mp
        (State.settingsChanged_trackerMoves { s with machine := m } s.machine)
      rw [State.handle, e]
      simp [Request.owned, State.parts, hprofiles, hassign, hstore]
  | setProfile n p => rcases s.setProfile_fst n p with e | e <;> rw [State.handle, e] <;> rfl
  | assignBars es =>
    rcases s.assignBars_fst es with e | e
    · exact hrefused e
    · rw [State.handle, e, State.applyAssignment_eq]; rfl
  | defineBlock id courses bars => rcases s.defineBlock_fst id courses bars with e | e <;> rw [State.handle, e] <;> rfl
  | blockData id first cells =>
    rcases s.blockData_fst id first cells with e | e
    · exact hrefused e
    · rw [State.handle, e, State.storeCells]; dsimp only; split <;> rfl
  | dropBlock id =>
    rcases s.dropBlock_fst id with e | e
    · exact hrefused e
    · rw [State.handle, e, State.drop, State.leaveChecks]; dsimp only; split <;> rfl
  | fetchNotice => rcases s.fetchNotice_fst with e | e <;> exact (congrArg State.parts e).trans rfl
  | reset scope => rcases s.resetRequest_fst scope with e | ⟨x, e⟩ <;> exact (congrArg State.parts e).trans rfl
  | blockInfo id => exact congrArg State.parts (s.blockInfo_fst id)
  | readBlockStart id course =>
    rcases s.readBlockStart_fst id course with e | ⟨c, e⟩ <;> exact (congrArg State.parts e).trans rfl
  | readBlockNext => rcases s.readBlockNext_fst with e | ⟨c, e⟩ <;> exact (congrArg State.parts e).trans rfl
  | writeSequence steps =>
    rcases s.writeSequence_fst steps with e | e
    · exact hrefused e
    · exact (congrArg State.parts e).trans (show _ = s.parts by simp [State.parts])
  | switchSequence mode => exact s.switchSequence_parts mode
  | setCursor place =>
    rcases s.setCursor_fst place with e | e
    · exact hrefused e
    · exact (congrArg State.parts e).trans (show _ = s.parts by simp [State.parts])
  | locate start stride targets =>
    rcases s.locate_fst start stride targets with e | e <;> exact (congrArg State.parts e).trans rfl
  | openStream first bars =>
    rcases s.openStream_fst first bars with e | e
    · exact hrefused e
    · exact (congrArg State.parts e).trans (show _ = s.parts by simp [State.parts])
  | courses count records =>
    rcases s.courses_fst count records with e | ⟨rs, e⟩
    · exact congrArg State.parts e
    · exact (congrArg State.parts e).trans (State.takeRecords_parts rs 0 s)
  | endStream =>
    rcases s.endStream_fst with e | e
    · exact hrefused e
    · exact (congrArg State.parts e).trans (show _ = s.parts by simp [State.parts])
  | flushCourses =>
    rcases s.flushCourses_fst with e | e
    · exact hrefused e
    · exact (congrArg State.parts e).trans (show _ = s.parts by simp [State.parts])
  | reference bars ext => rcases s.reference_fst bars ext with e | e <;> exact (congrArg State.parts e).trans rfl
  | jog bar target => rcases s.jog_fst bar target with e | e <;> exact (congrArg State.parts e).trans rfl
  | setRunState target => exact s.setRunState_parts target
  | ident | status | readSettings | getPosition | planReport | unknown _ | badLength _ => rfl

/-! ### The port and what comes due before a command -/

/-- The port handles no request, none waits, and no reset is owed. -/
def State.Free (s : State) : Prop := s.link.resetOwed = none ∧ s.PortFree

theorem State.Free.of_port {s t : State} (h : s.Free) (ht : t.link.port = s.link.port) : t.Free := by
  obtain ⟨howed, htx, hbuffer⟩ := h
  exact ⟨(congrArg Link.resetOwed ht).trans howed, (congrArg Link.tx ht).trans htx,
    (congrArg Link.buffer ht).trans hbuffer⟩

/-- With no reset owed the run controller's steps alone come before a command. -/
theorem State.Free.ready_eq {s : State} (h : s.Free) : s.ready = s.settleRun := by
  have howed : s.settleRun.link.resetOwed = none := (h.of_port s.settleRun_keeps_unpinned_port.2).1
  simp [State.ready, State.dueReset, State.takeOwed, howed]

section

variable {s : State} (h : s.Free) {own : Parts → Parts → Parts}
include h

theorem State.Free.request_parts (tag : Tag) (r : Request) :
    (s.request tag r).parts = r.owned s.parts (s.request tag r).parts := by
  obtain ⟨howed, htx, hbuffer⟩ := h
  unfold State.request
  split
  · have hserved : s.hunt.offerRequest tag r = (s.taken tag r).answer ⟨tag, r⟩ := by
      simp [State.offerRequest, hbuffer, Config.bufferRoom, State.serve, State.taken, State.hunt, State.updLink, htx, howed]
    have hanswered : (s.hunt.offerRequest tag r).parts = ((s.taken tag r).handle r).1.parts := by
      rw [hserved]
      exact (State.settleRun_parts _).trans rfl
    rw [hanswered]
    exact State.handle_parts (s.taken tag r) r
  · rw [Request.owned_self]

/-- What an event owns, the event with what comes due before it owns. -/
theorem State.Free.after_parts (hself : ∀ p, own p p = p) {f : State → State}
    (hf : ∀ u : State, u.Free → (f u).parts = own u.parts (f u).parts) (dt : Nat) :
    (s.after dt f).parts = own s.parts (s.after dt f).parts := by
  unfold State.after
  split
  · exact (hself s.parts).symm
  · rw [h.ready_eq]
    have hsettled := hf (s.settleRun.elapse dt) (h.of_port s.settleRun_keeps_unpinned_port.2)
    have hparts : (s.settleRun.elapse dt).parts = s.parts := s.settleRun_parts
    rwa [hparts] at hsettled

theorem State.Free.goesOn_parts (hself : ∀ p, own p p = p) {f : State → State} {t : State}
    (hf : ∀ u : State, u.Free → (f u).parts = own u.parts (f u).parts) (ht : s.goesOn f = .next t) :
    t.parts = own s.parts t.parts := by
  cases ht
  exact h.after_parts hself hf 0

theorem State.Free.goesOn_keeps {f : State → State} {t : State} (hf : ∀ u : State, u.Free → (f u).parts = u.parts)
    (ht : s.goesOn f = .next t) : t.parts = s.parts :=
  h.goesOn_parts (own := fun p _ => p) (fun _ => rfl) hf ht

theorem State.Free.onBar_keeps {b : Nat} {f : State → State} {t : State} (hf : ∀ u : State, (f u).parts = u.parts)
    (ht : s.onBar b f = .next t) : t.parts = s.parts := by
  unfold State.onBar at ht
  split at ht
  · exact h.goesOn_keeps (fun u _ => hf u) ht
  · cases ht

theorem State.Free.exchangeWhen_keeps {b : Nat} {holds : State → Bool} {t : State}
    (ht : s.exchangeWhen b holds = .next t) : t.parts = s.parts := by
  refine h.onBar_keeps (fun u => ?_) ht
  split
  · exact u.exchangeBar_parts b
  · rfl

theorem State.Free.replySent_eq : s.replySent = s := by
  rw [State.replySent, h.2.1]; rfl

theorem State.Free.ownReset_eq (scope : Scope) : s.ownReset scope = s := by
  simp [State.ownReset, h.1]

end

theorem State.ownStep_parts (s : State) (d : DueStep) : (s.ownStep d).parts = s.parts := by
  unfold State.ownStep
  split
  · exact s.perform_parts d
  · rfl

/-! ### What each command owns -/

/-- The parts as a command may leave them: its own come from the state after, the others from the state before. -/
def commandOwned (c : Instr) (before after : Parts) : Parts :=
  match c with
  | .setMachine _ _ => { before with machine := after.machine, tracker := after.tracker }
  | .setProfile _ _ _ => { before with profiles := after.profiles }
  | .assignBars _ _ => { before with assign := after.assign }
  | .defineBlock _ _ _ _ | .blockData _ _ _ _ | .dropBlock _ _ | .checkComplete => { before with store := after.store }
  | .encoderCount _ _ | .encoderError _ | .indexArrival _ | .stopDetect | .resetRelease _ =>
    { before with tracker := after.tracker }
  | _ => before

theorem commandOwned_of_requestOf {c : Instr} {w : Waiting} (hc : requestOf c = some w) : commandOwned c = w.request.owned := by
  cases c <;> cases hc <;> rfl

theorem State.completeCheck_parts (s : State) :
    s.completeCheck.parts = { s.parts with store := s.completeCheck.parts.store } := by
  unfold State.completeCheck
  split <;> rfl

theorem State.release_trackerMoves (s : State) (levels : Levels) : s.TrackerMoves (s.release levels) := by
  unfold State.release
  split <;> rfl

/-- With the port free and no reset owed, a command but a received byte and the two reset inputs leaves the parts that it does not
own. -/
theorem State.Free.exec_parts {s t : State} (h : s.Free) {c : Instr} (ht : exec c s = .next t)
    (hbyte : ∀ v stop dt, c ≠ .byteReceived v stop dt) (hpower : ∀ r1 r0, c ≠ .powerOn r1 r0) (hpin : c ≠ .pinReset) :
    t.parts = commandOwned c s.parts t.parts := by
  have hmoves {f : State → State} (hf : ∀ u : State, u.TrackerMoves (f u)) (dt : Nat) :=
    h.after_parts (own := fun p q => { p with tracker := q.tracker }) (fun _ => rfl) (fun u _ => hf u) dt
  cases hc : requestOf c with
  | some w =>
    rw [commandOwned_of_requestOf hc]
    exact h.goesOn_parts w.request.owned_self (fun u hu => hu.request_parts w.tag w.request)
      ((exec_of_requestOf hc s).symm.trans ht)
  | none =>
    cases c with
    | motionReset => cases ht; exact congrArg State.parts (h.ownReset_eq .motion)
    | fullReset => cases ht; exact congrArg State.parts (h.ownReset_eq .full)
    | checkComplete =>
      exact h.goesOn_parts (own := fun p q => { p with store := q.store }) (fun _ => rfl) (fun u _ => u.completeCheck_parts) ht
    | locateDone => exact h.goesOn_keeps (fun u _ => u.endLocate_parts) ht
    | byteReceived v stop dt => exact absurd rfl (hbyte v stop dt)
    | frameGapTimeout => exact h.goesOn_keeps (fun u _ => u.gapTimeout_parts) ht
    | replySent => exact h.goesOn_keeps (fun u hu => congrArg State.parts hu.replySent_eq) ht
    | encoderCount levels dt => cases ht; exact hmoves (fun u => u.sample_trackerMoves levels) dt
    | encoderError dt => cases ht; exact hmoves State.encoderError_trackerMoves dt
    | indexArrival dt => cases ht; exact hmoves State.arriveIndex_trackerMoves dt
    | stopDetect => cases ht; exact hmoves State.detectStop_trackerMoves 0
    | exchange b => exact h.onBar_keeps (fun u => u.exchangeBar_parts b) ht
    | statusFrame line bytes => exact h.goesOn_keeps (fun u _ => u.receiveStatus_parts line bytes) ht
    | driveLost | enableTimeout | energizeTimeEnd | holdDelayExpiry | jogTargetReached | settleTimeout | zeroMoveComplete
    | aligned => exact h.exchangeWhen_keeps ht
    | allowanceTimeout => exact h.goesOn_keeps (fun u _ => u.expireAllowance_parts) ht
    | enterHoldFromStandby | alignmentStart | enterRun | enterHold | enterStandby => cases ht; exact s.ownStep_parts _
    | permitFrame => exact h.goesOn_keeps (fun u _ => u.permitFrame_parts) ht
    | powerOn rate1 rate0 => exact absurd rfl (hpower rate1 rate0)
    | pinReset => exact absurd rfl hpin
    | resetRelease levels => cases ht; exact s.release_trackerMoves levels
    | startUpEnd => cases ht; exact s.endStartUp_parts
    | _ => cases hc

/-! ### Each part has its own commands -/

section

variable {c : Instr} (p q : Parts)

theorem commandOwned_machine (h : ∀ tag m, c ≠ .setMachine tag m) : (commandOwned c p q).machine = p.machine := by
  cases c with
  | setMachine tag m => exact absurd rfl (h tag m)
  | _ => rfl

theorem commandOwned_profiles (h : ∀ tag n v, c ≠ .setProfile tag n v) : (commandOwned c p q).profiles = p.profiles := by
  cases c with
  | setProfile tag n v => exact absurd rfl (h tag n v)
  | _ => rfl

theorem commandOwned_assign (h : ∀ tag es, c ≠ .assignBars tag es) : (commandOwned c p q).assign = p.assign := by
  cases c with
  | assignBars tag es => exact absurd rfl (h tag es)
  | _ => rfl

theorem commandOwned_store (hdefine : ∀ tag id n bars, c ≠ .defineBlock tag id n bars)
    (hdata : ∀ tag id n cells, c ≠ .blockData tag id n cells) (hdrop : ∀ tag id, c ≠ .dropBlock tag id)
    (hcheck : c ≠ .checkComplete) : (commandOwned c p q).store = p.store := by
  cases c with
  | defineBlock tag id n bars => exact absurd rfl (hdefine tag id n bars)
  | blockData tag id n cells => exact absurd rfl (hdata tag id n cells)
  | dropBlock tag id => exact absurd rfl (hdrop tag id)
  | checkComplete => exact absurd rfl hcheck
  | _ => rfl

theorem commandOwned_tracker (hcount : ∀ lv dt, c ≠ .encoderCount lv dt) (herror : ∀ dt, c ≠ .encoderError dt)
    (hindex : ∀ dt, c ≠ .indexArrival dt) (hstop : c ≠ .stopDetect) (hmachine : ∀ tag m, c ≠ .setMachine tag m)
    (hrelease : ∀ lv, c ≠ .resetRelease lv) : (commandOwned c p q).tracker = p.tracker := by
  cases c with
  | encoderCount lv dt => exact absurd rfl (hcount lv dt)
  | encoderError dt => exact absurd rfl (herror dt)
  | indexArrival dt => exact absurd rfl (hindex dt)
  | stopDetect => exact absurd rfl hstop
  | setMachine tag m => exact absurd rfl (hmachine tag m)
  | resetRelease lv => exact absurd rfl (hrelease lv)
  | _ => rfl

end

/-- Settles O60: what a command leaves is read off the parts that it owns. -/
theorem onlyItsCommandsChangeABlock : Obligations.OnlyItsCommandsChangeABlock := by
  intro c s t howed hport ht hbyte hpower hpin
  have hparts := State.Free.exec_parts ⟨howed, hport⟩ ht hbyte hpower hpin
  refine ⟨fun h => ?_, fun h => ?_, fun h => ?_, fun hdefine hdata hdrop hcheck => ?_,
    fun hcount herror hindex hstop hmachine hrelease => ?_⟩
  · exact (congrArg Parts.machine hparts).trans (commandOwned_machine _ _ h)
  · exact (congrArg Parts.profiles hparts).trans (commandOwned_profiles _ _ h)
  · exact (congrArg Parts.assign hparts).trans (commandOwned_assign _ _ h)
  · have hstore : t.store.unpinned = s.store.unpinned :=
      (congrArg Parts.store hparts).trans (commandOwned_store _ _ hdefine hdata hdrop hcheck)
    have hfree := congrArg Store.free hstore
    have hqueue := congrArg Store.checkQueue hstore
    refine ⟨hfree, hqueue, fun id => ?_⟩
    exact (t.block_unpinned id).trans (hstore ▸ (s.block_unpinned id).symm)
  · exact (congrArg Parts.tracker hparts).trans
      (commandOwned_tracker _ _ hcount herror hindex hstop hmachine hrelease)

end Sys2Proof.Machine
end

section
/-! PROOF. A property that the pieces of a step keep is kept by every step: the induction along the link, the resets and the
commands, done once for every such property. -/

namespace Sys2Proof.Machine

/-- What is to be shown of a property for every step to keep it: it does not look at the queue of commands, the clock, the permit
line or the link, and the owners of the requests, the run controller's own steps, the events and the resets keep it. -/
structure KeptByPieces (P : State → Prop) : Prop where
  outside : ∀ {s t : State},
    t = { s with pending := t.pending, now := t.now, permitLine := t.permitLine, link := t.link } → P s → P t
  handle : ∀ {s : State} (r : Request), P s → P (s.handle r).1
  perform : ∀ {s : State} (d : DueStep), P s → P (s.perform d)
  sample : ∀ {s : State} (levels : Levels), P s → P (s.sample levels)
  encoderError : ∀ {s : State}, P s → P s.encoderError
  arriveIndex : ∀ {s : State}, P s → P s.arriveIndex
  detectStop : ∀ {s : State}, P s → P s.detectStop
  exchangeBar : ∀ {s : State} (b : Nat), P s → P (s.exchangeBar b)
  receiveStatus : ∀ {s : State} (line : DriveLine) (bytes : List Byte), P s → P (s.receiveStatus line bytes)
  expireAllowance : ∀ {s : State}, P s → P s.expireAllowance
  completeCheck : ∀ {s : State}, P s → P s.completeCheck
  endLocate : ∀ {s : State}, P s → P s.endLocate
  cleared : ∀ (s : State) (power : Power) (cause : ResetCause) (line : PermitLine) (rate : Nat),
    P (s.cleared power cause line rate)
  motionCleared : ∀ {s : State}, P s → P s.motionCleared
  powered : ∀ {s : State} (power : Power), P s → P { s with power := power }
  released : ∀ {s : State} (levels : Levels), P s → P (s.release levels)

namespace KeptByPieces

variable {P : State → Prop} (k : KeptByPieces P) {s : State}
include k

/-! ### What comes due, and the handling of requests -/

theorem takeDue (h : P s) : P s.takeDue := by
  unfold State.takeDue
  split
  · exact k.perform _ h
  · exact h

theorem settleRun (h : P s) : P s.settleRun := k.takeDue (k.takeDue h)

theorem answer (h : P s) (w : Waiting) : P (s.answer w) := k.outside rfl (k.settleRun (k.handle w.request h))

theorem serve (h : P s) : P s.serve := by
  unfold State.serve
  split
  · exact k.answer h _
  · exact h

theorem offerRequest (h : P s) (tag : Tag) (r : Request) : P (s.offerRequest tag r) := by
  unfold State.offerRequest
  split
  · exact k.serve (k.outside rfl h)
  · exact k.outside rfl h

theorem hunt (h : P s) : P s.hunt := k.outside rfl h

theorem request (h : P s) (tag : Tag) (r : Request) : P (s.request tag r) := by
  unfold State.request
  split
  · exact k.offerRequest (k.hunt h) tag r
  · exact h

theorem freePlace (h : P s) : P s.freePlace := k.outside (s := s) rfl h

theorem replySent (h : P s) : P s.replySent := by
  unfold State.replySent
  split
  · exact k.serve (k.freePlace h)
  · exact h

/-! ### The receiver and the permit line -/

theorem completeFrame (h : P s) (bytes : List Byte) : P (s.completeFrame bytes) := by
  unfold State.completeFrame
  split
  · exact k.offerRequest (k.hunt h) _ _
  · exact k.hunt h

/-- A byte changes the receiver alone, unless it completes a frame. -/
theorem takeByte (h : P s) (v : Byte) : P (s.takeByte v) := by
  unfold State.takeByte
  dsimp only
  split
  case h_4 =>
    split
    · exact k.outside rfl h
    · exact k.completeFrame h _
  all_goals (repeat' split) <;> exact k.outside rfl h

theorem receiveByte (h : P s) (v : Byte) (stopHigh : Bool) : P (s.receiveByte v stopHigh) := by
  have hgap : P (if s.gapTooLong then s.hunt else s) := by
    split
    · exact k.hunt h
    · exact h
  unfold State.receiveByte
  split
  · exact h
  · dsimp only
    split
    · exact k.takeByte hgap v
    · exact k.hunt hgap

theorem gapTimeout (h : P s) : P s.gapTimeout := by
  unfold State.gapTimeout
  split
  · exact h
  · exact k.outside (s := s) rfl h

theorem permitFrame (h : P s) : P s.permitFrame := by
  unfold State.permitFrame
  split
  · exact k.outside (s := s) rfl h
  · exact h

theorem firstPermit (h : P s) : P s.firstPermit := by
  unfold State.firstPermit
  split <;> exact k.outside rfl h

/-! ### The resets -/

theorem pinHeld (s : State) : P s.pinHeld := by
  unfold State.pinHeld
  split <;> exact k.cleared s _ _ _ _

theorem endStartUp (h : P s) : P s.endStartUp := by
  unfold State.endStartUp
  split
  · exact k.outside (s := { s with power := .running }) rfl (k.powered .running h)
  · exact h

theorem resetAnswered (h : P s) : P s.resetAnswered := by
  unfold State.resetAnswered
  split
  · exact k.outside rfl (k.freePlace h)
  · exact k.outside rfl h

theorem takeOwed (h : P s) : P s.takeOwed := by
  unfold State.takeOwed
  split
  · exact k.serve (k.firstPermit (k.motionCleared (k.resetAnswered h)))
  · exact k.firstPermit (k.cleared _ _ _ _ _)
  · exact h

theorem dueReset (h : P s) : P s.dueReset := by
  unfold State.dueReset
  split
  · exact k.takeOwed h
  · exact h

/-! ### The commands -/

/-- An event that keeps the property keeps it with what comes due before it. -/
theorem after (h : P s) (dt : Nat) {f : State → State} (hf : ∀ {u : State}, P u → P (f u)) : P (s.after dt f) := by
  unfold State.after
  split
  · exact k.outside rfl h
  · exact hf (k.outside rfl (k.dueReset (k.settleRun h)))

theorem goesOn (h : P s) {f : State → State} {t : State} (hf : ∀ {u : State}, P u → P (f u)) (ht : s.goesOn f = .next t) :
    P t := by
  cases ht
  exact k.after h 0 hf

theorem onBar (h : P s) {b : Nat} {f : State → State} {t : State} (hf : ∀ {u : State}, P u → P (f u))
    (ht : s.onBar b f = .next t) : P t := by
  unfold State.onBar at ht
  split at ht
  · exact k.goesOn h hf ht
  · cases ht

theorem exchangeWhen (h : P s) {b : Nat} {holds : State → Bool} {t : State} (ht : s.exchangeWhen b holds = .next t) :
    P t := by
  refine k.onBar h (fun hu => ?_) ht
  split
  · exact k.exchangeBar b hu
  · exact hu

theorem ownStep (h : P s) (d : DueStep) : P (s.ownStep d) := by
  unfold State.ownStep
  split
  · exact k.perform d h
  · exact h

theorem ownReset (h : P s) (scope : Scope) : P (s.ownReset scope) := by
  unfold State.ownReset
  split
  · exact k.takeOwed (k.settleRun h)
  · exact h

/-- Every command keeps the property. -/
theorem exec {t : State} (h : P s) {c : Instr} (ht : exec c s = .next t) : P t := by
  cases hc : requestOf c with
  | some w => exact k.goesOn h (fun hu => k.request hu _ _) ((exec_of_requestOf hc s).symm.trans ht)
  | none =>
    cases c with
    | motionReset => cases ht; exact k.ownReset h .motion
    | fullReset => cases ht; exact k.ownReset h .full
    | checkComplete => exact k.goesOn h k.completeCheck ht
    | locateDone => exact k.goesOn h k.endLocate ht
    | byteReceived v stopHigh dt => cases ht; exact k.after h dt fun hu => k.receiveByte hu v stopHigh
    | frameGapTimeout => exact k.goesOn h k.gapTimeout ht
    | replySent => exact k.goesOn h k.replySent ht
    | encoderCount levels dt => cases ht; exact k.after h dt (k.sample levels)
    | encoderError dt => cases ht; exact k.after h dt k.encoderError
    | indexArrival dt => cases ht; exact k.after h dt k.arriveIndex
    | stopDetect => exact k.goesOn h k.detectStop ht
    | exchange b => exact k.onBar h (k.exchangeBar b) ht
    | statusFrame line bytes => exact k.goesOn h (k.receiveStatus line bytes) ht
    | driveLost | enableTimeout | energizeTimeEnd | holdDelayExpiry | jogTargetReached | settleTimeout | zeroMoveComplete
    | aligned => exact k.exchangeWhen h ht
    | allowanceTimeout => exact k.goesOn h k.expireAllowance ht
    | enterHoldFromStandby | alignmentStart | enterRun | enterHold | enterStandby => cases ht; exact k.ownStep h _
    | permitFrame => exact k.goesOn h k.permitFrame ht
    | powerOn rate1 rate0 => cases ht; exact k.cleared s _ _ _ _
    | pinReset => cases ht; exact k.pinHeld s
    | resetRelease levels => cases ht; exact k.released levels h
    | startUpEnd => cases ht; exact k.endStartUp h
    | _ => cases hc

/-- Every step keeps the property: the command at the front runs with the queue's rest, or 1 us passes. -/
theorem step {t : State} (h : P s) (ht : step s = .next t) : P t := by
  unfold Machine.step at ht
  split at ht
  · cases ht; exact k.outside rfl h
  next c rest _ => exact k.exec (s := { s with pending := rest }) (k.outside rfl h) ht

end KeptByPieces

end Sys2Proof.Machine
end

section
/-! PROOF. No operation of the model adds a channel or takes one away. -/

namespace Sys2Proof.Machine

namespace State

variable (s : State)

/-! ### The reports and the ends of motions -/

@[simp] theorem endFollowing_channels_length : s.endFollowing.channels.length = s.channels.length := by
  simp [endFollowing]

@[simp] theorem endJog_channels_length (b : Nat) (o : JogOutcome) (f : Channel → Channel) :
    (s.endJog b o f).channels.length = s.channels.length := by
  unfold endJog
  split <;> simp

@[simp] theorem endJogs_channels_length (o : JogOutcome) (f : Channel → Channel) :
    (s.endJogs o f).channels.length = s.channels.length := by
  unfold endJogs
  induction allBars generalizing s with
  | nil => rfl
  | cons b bs ih => rw [List.foldl_cons, ih, endJog_channels_length]

@[simp] theorem finishRemaining_channels_length (o : RefOutcome) (f : Channel → Channel) :
    (s.finishRemaining o f).channels.length = s.channels.length := by
  unfold finishRemaining
  split <;> simp

@[simp] theorem endMotions_channels_length (jo : JogOutcome) (ro : RefOutcome) (fj fr : Channel → Channel) :
    (s.endMotions jo ro fj fr).channels.length = s.channels.length := by
  unfold endMotions
  (repeat' split) <;> simp

@[simp] theorem failAlignment_channels_length (c : Cause) (d b : Nat) :
    (s.failAlignment c d b).channels.length = s.channels.length := by
  simp [failAlignment]

@[simp] theorem reportWith_channels_length (c : Cause) (d b : Nat) (v : Option Nat) (p : Nat) :
    (s.reportWith c d b v p).channels.length = s.channels.length := by
  unfold reportWith haltOn coast
  dsimp only
  (repeat' split) <;> simp

@[simp] theorem faultChannel_channels_length (b : Nat) (c : Cause) (d e : Nat) (x : Int) :
    (s.faultChannel b c d e x).channels.length = s.channels.length := by
  unfold faultChannel
  dsimp only
  split <;> simp [notifyBarFault, report]

@[simp] theorem faultUncompared_channels_length (b : Nat) (c : Cause) (d : Nat) :
    (s.faultUncompared b c d).channels.length = s.channels.length := by
  simp [faultUncompared]

@[simp] theorem shaftMoved_channels_length : s.shaftMoved.channels.length = s.channels.length := by
  unfold shaftMoved
  dsimp only
  split <;> simp

@[simp] theorem leaveLocked_channels_length : s.leaveLocked.channels.length = s.channels.length := by
  simp [leaveLocked]

/-! ### The course lists -/

@[simp] theorem reportUnderrun_channels_length : s.reportUnderrun.channels.length = s.channels.length := by
  unfold reportUnderrun
  split <;> simp [report]

@[simp] theorem crossForward_channels_length : s.crossForward.channels.length = s.channels.length := by
  unfold crossForward
  dsimp only
  (repeat' split) <;> simp

@[simp] theorem crossBackward_channels_length : s.crossBackward.channels.length = s.channels.length := by
  unfold crossBackward
  dsimp only
  (repeat' split) <;> simp [report]

@[simp] theorem arriveUnderlap_channels_length : s.arriveUnderlap.channels.length = s.channels.length := by
  unfold arriveUnderlap
  (repeat' split) <;> simp

/-! ### The run controller -/

@[simp] theorem perform_channels_length (d : DueStep) : (s.perform d).channels.length = s.channels.length := by
  cases d with
  | enterHoldFromStandby => simp [perform]
  | alignmentStart => simp [perform, startAlignment]
  | enterRun => simp [perform, enterRun, enter, notifyReached, startFollowing, follow]
  | enterHold => simp [perform, enterHold, enter, notifyReached]
  | enterStandby => simp [perform, enterStandby, enter, notifyReached]

@[simp] theorem settleRun_channels_length : s.settleRun.channels.length = s.channels.length := by
  have hdue (u : State) : u.takeDue.channels.length = u.channels.length := by
    unfold takeDue
    split <;> simp
  rw [settleRun, hdue, hdue]

theorem takeUp_channels_length (t : Target) : (s.takeUp t).channels.length = s.channels.length := by
  have hstandby : s.enterStandby.channels.length = s.channels.length := s.perform_channels_length .enterStandby
  unfold takeUp
  (repeat' split) <;> simp [cancelWait, startWait, enableAll, hstandby]

/-! ### The channels -/

@[simp] theorem notifyView_channels_length (b : Nat) (v : DriveView) :
    (s.notifyView b v).channels.length = s.channels.length := by
  unfold notifyView
  dsimp only
  (repeat' split) <;> rfl

@[simp] theorem judgeMissing_channels_length (b : Nat) : (s.judgeMissing b).channels.length = s.channels.length := by
  unfold judgeMissing
  dsimp only
  (repeat' split) <;> simp

@[simp] theorem expire_channels_length (b : Nat) (e : Expiry) : (s.expire b e).channels.length = s.channels.length := by
  cases e <;> simp [expire]

@[simp] theorem arrive_channels_length (b : Nat) (a : Arrival) : (s.arrive b a).channels.length = s.channels.length := by
  cases a <;> simp [arrive]

theorem exchangeBar_channels_length (b : Nat) : (s.exchangeBar b).channels.length = s.channels.length := by
  unfold exchangeBar
  split <;> simp [send, beginExchange]

@[simp] theorem goodStatus_channels_length (b : Nat) (d : DriveStatus) :
    (s.goodStatus b d).channels.length = s.channels.length := by
  unfold goodStatus referencingStatus joggingStatus notFound
  dsimp only
  (repeat' split) <;> simp

theorem receiveStatus_channels_length (line : DriveLine) (bytes : List Byte) :
    (s.receiveStatus line bytes).channels.length = s.channels.length := by
  unfold receiveStatus takeStatus
  dsimp only
  (repeat' split) <;> simp

theorem expireAllowance_channels_length : s.expireAllowance.channels.length = s.channels.length := by
  unfold expireAllowance
  split <;> simp

/-! ### The tracker -/

@[simp] theorem listsForward_channels_length : s.listsForward.channels.length = s.channels.length := by
  unfold listsForward
  split <;> simp

@[simp] theorem raise_channels_length (e : Option ShaftEvent) : (s.raise e).channels.length = s.channels.length := by
  unfold raise forwardCrossing crossingReports closeCourse backwardCrossing underlapArrival
  dsimp only
  (repeat' split) <;> simp

@[simp] theorem follow_channels_length : s.follow.channels.length = s.channels.length := by
  simp [follow]

theorem encoderError_channels_length : s.encoderError.channels.length = s.channels.length := by
  unfold encoderError
  dsimp only
  (repeat' split) <;> simp [report]

theorem sample_channels_length (levels : Levels) : (s.sample levels).channels.length = s.channels.length := by
  have hcount (d : Direction) : (s.count d levels).channels.length = s.channels.length := by
    unfold count
    dsimp only
    (repeat' split) <;> simp
  unfold sample
  split
  · rfl
  · exact hcount .forward
  · exact hcount .backward
  · exact s.encoderError_channels_length

theorem arriveIndex_channels_length : s.arriveIndex.channels.length = s.channels.length := by
  unfold arriveIndex checkIndex lockedIndex correct
  dsimp only
  (repeat' split) <;> simp [report]

@[simp] theorem goStopped_channels_length : s.goStopped.channels.length = s.channels.length := by
  unfold goStopped
  dsimp only
  split <;> simp

theorem detectStop_channels_length : s.detectStop.channels.length = s.channels.length := by
  unfold detectStop
  split <;> simp

theorem settingsChanged_channels_length (old : MachineRecord) :
    (s.settingsChanged old).channels.length = s.channels.length := by
  unfold settingsChanged
  dsimp only
  (repeat' split) <;> simp

/-! ### The requests and the search -/

theorem endLocate_channels_length : s.endLocate.channels.length = s.channels.length := by
  unfold endLocate
  split <;> simp

theorem takeRecords_channels_length (rs : List SentRecord) (n : Nat) :
    (takeRecords n rs s).1.channels.length = s.channels.length := by
  induction rs generalizing n s with
  | nil => rfl
  | cons r rs ih =>
    unfold takeRecords
    split
    · rfl
    · rw [ih]; simp [takeRecord]

/-- Whatever a request comes to, its owner leaves the part its channels. -/
theorem handle_channels_length (r : Request) : (s.handle r).1.channels.length = s.channels.length := by
  cases r with
  | setMachine m =>
    rcases s.setMachine_fst m with e | ⟨-, e⟩ <;> rw [handle, e]
    exact settingsChanged_channels_length { s with machine := m } s.machine
  | assignBars es => rcases s.assignBars_fst es with e | e <;> rw [handle, e]; simp [applyAssignment_eq]
  | blockData id first cells =>
    rcases s.blockData_fst id first cells with e | e <;> rw [handle, e]
    unfold storeCells
    dsimp only
    split <;> rfl
  | dropBlock id =>
    rcases s.dropBlock_fst id with e | e <;> rw [handle, e]
    unfold drop leaveChecks
    dsimp only
    split <;> rfl
  | writeSequence steps => rcases s.writeSequence_fst steps with e | e <;> rw [handle, e]; simp
  | switchSequence mode =>
    rcases s.switchSequence_fst mode with e | e | ⟨m, e⟩ <;> rw [handle, e]
    · rcases s.switchNow_fst with e | e <;> rw [e]; simp
    · unfold switchTimed
      split <;> simp
  | setCursor place => rcases s.setCursor_fst place with e | e <;> rw [handle, e]; simp
  | openStream first bars => rcases s.openStream_fst first bars with e | e <;> rw [handle, e]; simp
  | courses count records =>
    rcases s.courses_fst count records with e | ⟨rs, e⟩ <;> rw [handle, e]
    exact s.takeRecords_channels_length rs 0
  | endStream => rcases s.endStream_fst with e | e <;> rw [handle, e]; simp
  | flushCourses => rcases s.flushCourses_fst with e | e <;> rw [handle, e]; simp
  | reference bars ext => rcases s.reference_fst bars ext with e | e <;> rw [handle, e]; simp [startReference]
  | jog bar target => rcases s.jog_fst bar target with e | e <;> rw [handle, e]; simp
  | setRunState target =>
    rcases s.setRunState_fst target with e | ⟨bad, t, e⟩ <;> rw [handle, e]
    rw [settleRun_channels_length, takeUp_channels_length]
    rfl
  | setProfile n p => rcases s.setProfile_fst n p with e | e <;> rw [handle, e]
  | defineBlock id n bars => rcases s.defineBlock_fst id n bars with e | e <;> rw [handle, e]; rfl
  | fetchNotice => rcases s.fetchNotice_fst with e | e <;> rw [handle, e]; rfl
  | reset scope => rcases s.resetRequest_fst scope with e | ⟨x, e⟩ <;> rw [handle, e]; rfl
  | blockInfo id => rw [handle, s.blockInfo_fst id]
  | readBlockStart id n => rcases s.readBlockStart_fst id n with e | ⟨c, e⟩ <;> rw [handle, e]; rfl
  | readBlockNext => rcases s.readBlockNext_fst with e | ⟨c, e⟩ <;> rw [handle, e]; rfl
  | locate start stride ts => rcases s.locate_fst start stride ts with e | e <;> rw [handle, e]; rfl
  | ident | status | readSettings | getPosition | planReport | unknown _ | badLength _ => rfl

end State

end Sys2Proof.Machine
end

section
/-! PROOF. The pattern store (03): what each of its operations does to an entry, the counts and the check queue; and that every
step keeps the cells counted and the check queue sound. -/

namespace Sys2Proof.Machine

/-! ### One entry of the table changed (03, R33) -/

/-- An entry changed in a table: the entry itself, the others as they were. -/
theorem getD_modify {l : List Block} {id : Nat} (hid : id < l.length) (f : Block → Block) (x : Nat) :
    (l.modify id f).getD x Block.vacant =
      if x = id then f (l.getD id Block.vacant) else l.getD x Block.vacant := by
  simp only [List.getD, List.getElem?_modify]
  by_cases hx : x = id
  · subst hx; simp [hid]
  · simp [hx, Ne.symm hx]

/-- A table with one entry changed, with the new entry written out. -/
theorem State.modify_block {s : State} {id : Nat} (hid : id < s.store.blocks.length) (f : Block → Block) :
    s.store.blocks.modify id f = s.store.blocks.set id (f (s.block id)) := by
  rw [List.modify_eq_take_cons_drop hid, List.set_eq_take_append_cons_drop, if_pos hid, State.block,
    List.getD_eq_getElem _ _ hid]

/-- The cells that a table's entries hold change by those of the entry changed. -/
theorem sum_heldCells_modify {l : List Block} {id : Nat} (hid : id < l.length) (f : Block → Block) :
    ((l.modify id f).map heldCells).sum + heldCells (l.getD id Block.vacant) =
      (l.map heldCells).sum + heldCells (f (l.getD id Block.vacant)) := by
  induction l generalizing id with
  | nil => simp at hid
  | cons b bs ih =>
    cases id with
    | zero => simp; omega
    | succ id =>
      have hrest := ih (id := id) (by simpa using hid)
      simp only [List.modify_succ_cons, List.map_cons, List.sum_cons, List.getD_cons_succ]
      omega

theorem heldCells_of_ne_empty {b : Block} (h : b.state ≠ .empty) : heldCells b = cellCount b := if_neg h

theorem heldCells_of_empty {b : Block} (h : b.state = .empty) : heldCells b = 0 := if_pos h

/-! ### A sound store -/

/-- The store has its entries, its cells are counted, and its check queue names CHECKING blocks alone, none twice (03, R33, R35,
R40). -/
structure Store.Sound (st : Store) : Prop where
  sized : st.blocks.length = 128
  counted : st.free + (st.blocks.map heldCells).sum = Config.storeCells
  nodup : st.checkQueue.Nodup
  checking : ∀ id ∈ st.checkQueue, (st.blocks.getD id Block.vacant).state = .checking

theorem State.store_sound_iff (s : State) : s.store.Sound ↔ s.store.blocks.length = 128 ∧ s.StoreSound :=
  ⟨fun ⟨hsized, hcounted, hnodup, hchecking⟩ => ⟨hsized, hcounted, hnodup, hchecking⟩,
    fun ⟨hsized, hcounted, hnodup, hchecking⟩ => ⟨hsized, hcounted, hnodup, hchecking⟩⟩

/-- Pins, the readback cursor and the start of the check are no matter. -/
theorem Store.sound_unpinned (st : Store) : st.unpinned.Sound ↔ st.Sound := by
  have hstate (id : Nat) : (st.unpinned.blocks.getD id Block.vacant).state = (st.blocks.getD id Block.vacant).state := by
    simp only [Store.unpinned, List.getD, List.getElem?_map]
    cases st.blocks[id]? <;> rfl
  have hheld : st.unpinned.blocks.map heldCells = st.blocks.map heldCells := List.map_map
  constructor
  · intro ⟨hsized, hcounted, hnodup, hchecking⟩
    exact ⟨by simpa [Store.unpinned] using hsized, by rw [hheld] at hcounted; exact hcounted, hnodup,
      fun id hid => (hstate id).symm.trans (hchecking id hid)⟩
  · intro ⟨hsized, hcounted, hnodup, hchecking⟩
    exact ⟨by simpa [Store.unpinned] using hsized, by rw [hheld]; exact hcounted, hnodup,
      fun id hid => (hstate id).trans (hchecking id hid)⟩

theorem Store.Sound.of_unpinned {st t : Store} (h : st.Sound) (ht : t.unpinned = st.unpinned) : t.Sound := by
  rw [← Store.sound_unpinned, ht, Store.sound_unpinned]
  exact h

/-- A checked block has an entry of the table. -/
theorem Store.Sound.lt_of_mem {st : Store} (h : st.Sound) {id : Nat} (hid : id ∈ st.checkQueue) :
    id < st.blocks.length := by
  by_contra hout
  have hchecking := h.checking id hid
  rw [List.getD_eq_default _ _ (Nat.le_of_not_lt hout)] at hchecking
  cases hchecking

/-- The blocks behind the head of the check queue are others than the head, each once. -/
theorem Store.Sound.behind_head {st : Store} (h : st.Sound) {id : Nat} {rest : List Nat} (hqueue : st.checkQueue = id :: rest) :
    st.checkQueue.tail.Nodup ∧ ∀ x ∈ st.checkQueue.tail, x ≠ id ∧ x ∈ st.checkQueue := by
  have hnodup := h.nodup
  rw [hqueue, List.nodup_cons] at hnodup
  rw [hqueue]
  exact ⟨hnodup.2, fun x hx => ⟨fun heq => hnodup.1 (heq ▸ hx), List.mem_cons_of_mem _ hx⟩⟩

/-- One entry changed, with the free cells that its cells make up for: the check queue may keep the other blocks that it named, and
may name the changed one when it is CHECKING. -/
theorem Store.Sound.modifyBlock {st t : Store} (h : st.Sound) {id : Nat} (hid : id < st.blocks.length) (f : Block → Block)
    (hblocks : t.blocks = st.blocks.modify id f)
    (hfree : t.free + heldCells (f (st.blocks.getD id Block.vacant)) =
      st.free + heldCells (st.blocks.getD id Block.vacant))
    (hnodup : t.checkQueue.Nodup)
    (hqueue : ∀ x ∈ t.checkQueue, x ≠ id ∧ x ∈ st.checkQueue ∨
      x = id ∧ (f (st.blocks.getD id Block.vacant)).state = .checking) : t.Sound := by
  have hsum := sum_heldCells_modify hid f
  have hcounted := h.counted
  refine ⟨by rw [hblocks, List.length_modify]; exact h.sized, by rw [hblocks]; omega, hnodup, fun x hx => ?_⟩
  rw [hblocks, getD_modify hid]
  rcases hqueue x hx with ⟨hne, hmem⟩ | ⟨rfl, hnew⟩
  · rw [if_neg hne]; exact h.checking x hmem
  · rw [if_pos rfl]; exact hnew

/-- A change that keeps an entry's cell count keeps the cells that it holds. -/
theorem heldCells_congr {b c : Block} (hb : b.state ≠ .empty) (hc : c.state ≠ .empty) (hcount : cellCount c = cellCount b) :
    heldCells c = heldCells b := by
  rw [heldCells_of_ne_empty hb, heldCells_of_ne_empty hc, hcount]

/-! ### The judging of the store's requests, said once (03, R36, R38, R45) -/

/-- DEFINE BLOCK is refused and changes nothing, or names an EMPTY entry whose cells find room (03, R36). -/
theorem State.defineBlock_cases (s : State) (id n : Nat) (bars : List Nat) :
    (s.defineBlock id n bars).1 = s ∧ (s.defineBlock id n bars).2.result ≠ .ok ∨
      id ≤ 127 ∧ (s.block id).state = .empty ∧ n * bars.length ≤ s.store.free ∧
        s.defineBlock id n bars = s.define id n bars := by
  unfold State.defineBlock
  split
  · exact .inl ⟨rfl, by simp [badField]⟩
  next hid =>
    split
    · exact .inl ⟨rfl, by simp⟩
    next hempty =>
      split
      · exact .inl ⟨rfl, by simp [badField]⟩
      · split
        · exact .inl ⟨rfl, by simp [badField]⟩
        · split
          · exact .inl ⟨rfl, by simp [badField]⟩
          · split
            · exact .inl ⟨rfl, by simp⟩
            next hroom => exact .inr ⟨Nat.le_of_not_lt hid, not_not.mp hempty, Nat.le_of_not_lt hroom, rfl⟩

/-- BLOCK DATA is refused and changes nothing, or names a LOADING entry (03, R38). -/
theorem State.blockData_cases (s : State) (id first : Nat) (cells : List Cell) :
    (s.blockData id first cells).1 = s ∧ (s.blockData id first cells).2.result ≠ .ok ∨
      id ≤ 127 ∧ (s.block id).state = .loading ∧ s.blockData id first cells = s.storeCells id cells := by
  unfold State.blockData
  dsimp only
  split
  · exact .inl ⟨rfl, by simp [badField]⟩
  next hid =>
    split
    · exact .inl ⟨rfl, by simp [refuse]⟩
    · split
      · exact .inl ⟨rfl, by simp [refuse]⟩
      · split
        · exact .inl ⟨rfl, by simp⟩
        next hloading =>
          split
          · exact .inl ⟨rfl, by simp⟩
          · split
            · exact .inl ⟨rfl, by simp⟩
            · split
              · exact .inl ⟨rfl, by simp⟩
              · exact .inr ⟨Nat.le_of_not_lt hid, not_not.mp hloading, rfl⟩

/-- DROP BLOCK is refused and changes nothing, or names an entry that is not EMPTY (03, R45). -/
theorem State.dropBlock_cases (s : State) (id : Nat) :
    (s.dropBlock id).1 = s ∧ (s.dropBlock id).2.result ≠ .ok ∨
      id ≤ 127 ∧ (s.block id).state ≠ .empty ∧ s.dropBlock id = s.drop id := by
  unfold State.dropBlock
  split
  · exact .inl ⟨rfl, by simp [badField]⟩
  next hid =>
    split
    · exact .inl ⟨rfl, by simp [refuse]⟩
    next hne =>
      split
      · exact .inl ⟨rfl, by simp⟩
      · exact .inr ⟨Nat.le_of_not_lt hid, hne, rfl⟩

/-! ### Each operation of the store keeps it sound -/

section

variable {s : State} (h : s.store.Sound)
include h

/-- A block defined takes its cells from the free ones (03, R37). -/
theorem State.define_sound {id n : Nat} {bars : List Nat} (hid : id ≤ 127) (hempty : (s.block id).state = .empty)
    (hroom : n * bars.length ≤ s.store.free) : (s.define id n bars).1.store.Sound := by
  have hlt : id < s.store.blocks.length := by rw [h.sized]; omega
  refine h.modifyBlock hlt (fun _ => definedBlock n bars) rfl ?_ h.nodup fun x hx => .inl ⟨?_, hx⟩
  · have hnew : heldCells (definedBlock n bars) = n * bars.length := rfl
    have hold : heldCells (s.store.blocks.getD id Block.vacant) = 0 := heldCells_of_empty hempty
    have hfree : (s.define id n bars).1.store.free = s.store.free - n * bars.length := rfl
    rw [hnew, hold, hfree]; omega
  · rintro rfl
    cases hempty.symm.trans (h.checking x hx)

/-- A LOADING block takes cells, and joins the check queue when it is complete (03, R39, R40). -/
theorem State.storeCells_sound {id : Nat} (hid : id ≤ 127) (hloading : (s.block id).state = .loading) (cells : List Cell) :
    (s.storeCells id cells).1.store.Sound := by
  have hlt : id < s.store.blocks.length := by rw [h.sized]; omega
  have hunchecked : id ∉ s.store.checkQueue := fun hmem => by cases hloading.symm.trans (h.checking id hmem)
  have hne : (s.block id).state ≠ .empty := by simp [hloading]
  unfold State.storeCells
  dsimp only
  split
  · refine h.modifyBlock hlt (fun b => { b with state := .checking, cells := b.cells ++ cells })
      (List.modify_modify_eq _ _ _ _) ?_ ?_ fun x hx => ?_
    · exact congrArg (s.store.free + ·) (heldCells_congr hne (by simp) rfl)
    · show (s.store.checkQueue ++ [id]).Nodup
      rw [← List.concat_eq_append]
      exact h.nodup.concat hunchecked
    · rcases List.mem_append.mp hx with hx | hx
      · exact .inl ⟨fun heq => hunchecked (heq ▸ hx), hx⟩
      · exact .inr ⟨List.mem_singleton.mp hx, rfl⟩
  · refine h.modifyBlock hlt (fun b => { b with cells := b.cells ++ cells }) rfl ?_ h.nodup
      fun x hx => .inl ⟨fun heq => hunchecked (heq ▸ hx), hx⟩
    exact congrArg (s.store.free + ·) (heldCells_congr hne hne rfl)

/-- A block dropped leaves the check queue and gives its cells back (03, R45). -/
theorem State.drop_sound {id : Nat} (hid : id ≤ 127) (hne : (s.block id).state ≠ .empty) : (s.drop id).1.store.Sound := by
  have hlt : id < s.store.blocks.length := by rw [h.sized]; omega
  have hfree : s.store.free + cellCount (s.block id) + heldCells Block.vacant =
      s.store.free + heldCells (s.block id) := by rw [heldCells_of_ne_empty hne]; rfl
  unfold State.drop State.leaveChecks
  dsimp only
  split
  next hhead =>
    obtain ⟨rest, hqueue⟩ := List.head?_eq_some_iff.mp hhead
    obtain ⟨hnodup, hothers⟩ := h.behind_head hqueue
    exact h.modifyBlock hlt (fun _ => Block.vacant) rfl hfree hnodup fun x hx => .inl (hothers x hx)
  next =>
    refine h.modifyBlock hlt (fun _ => Block.vacant) rfl hfree (h.nodup.filter _) fun x hx => ?_
    obtain ⟨hmem, hx⟩ := List.mem_filter.mp hx
    exact .inl ⟨by simpa using hx, hmem⟩

/-- The head of the check queue becomes READY and leaves it (03, R42). -/
theorem State.completeCheck_sound : s.completeCheck.store.Sound := by
  unfold State.completeCheck
  split
  · exact h
  next id rest hqueue =>
    have hmem : id ∈ s.store.checkQueue := by simp [hqueue]
    have hne : (s.block id).state ≠ .empty := by rw [State.block, h.checking id hmem]; decide
    obtain ⟨hnodup, hothers⟩ := h.behind_head hqueue
    refine h.modifyBlock (h.lt_of_mem hmem) (fun b => { b with state := .ready, digest := some (digestOf (s.block id).cells) })
      rfl ?_ hnodup fun x hx => .inl (hothers x hx)
    exact congrArg (s.store.free + ·) (heldCells_congr hne (by simp) rfl)

end

/-! ### The invariant -/

/-- What every step keeps of the tables and the store. -/
structure State.Stocked (s : State) : Prop where
  channels : s.channels.length = 64
  assign : s.assign.length = 64
  profiles : s.profiles.length = 8
  store : s.store.Sound

theorem State.stocked_iff (s : State) : s.Stocked ↔ s.Sized ∧ s.StoreSound := by
  constructor
  · intro ⟨hchannels, hassign, hprofiles, hstore⟩
    obtain ⟨hsized, hsound⟩ := s.store_sound_iff.mp hstore
    exact ⟨⟨hchannels, hassign, hprofiles, hsized⟩, hsound⟩
  · intro ⟨⟨hchannels, hassign, hprofiles, hsized⟩, hsound⟩
    exact ⟨hchannels, hassign, hprofiles, s.store_sound_iff.mpr ⟨hsized, hsound⟩⟩

namespace State.Stocked

variable {s t : State}

theorem of_tables (h : s.Stocked) (hc : t.channels.length = s.channels.length) (ha : t.assign = s.assign)
    (hp : t.profiles = s.profiles) (hs : t.store.Sound) : t.Stocked :=
  ⟨hc.trans h.channels, ha ▸ h.assign, hp ▸ h.profiles, hs⟩

/-- What moves the tracker alone of the parts, and adds no channel and takes none away, keeps the tables. -/
theorem of_trackerMoves (h : s.Stocked) (hm : s.TrackerMoves t) (hc : t.channels.length = s.channels.length) : t.Stocked := by
  obtain ⟨-, hprofiles, hassign, hstore⟩ := (State.trackerMoves_iff s t).mp hm
  exact h.of_tables hc hassign hprofiles (h.store.of_unpinned hstore)

theorem of_parts (h : s.Stocked) (hp : t.parts = s.parts) (hc : t.channels.length = s.channels.length) : t.Stocked := by
  have htracker : t.tracker = s.tracker := congrArg Parts.tracker hp
  exact h.of_trackerMoves (by rw [State.TrackerMoves, hp, htracker]; rfl) hc

/-- What leaves the other parts keeps the tables when it keeps the store sound. -/
theorem of_store (h : s.Stocked) (hp : t.parts = { s.parts with store := t.parts.store })
    (hc : t.channels.length = s.channels.length) (hs : t.store.Sound) : t.Stocked :=
  h.of_tables hc (congrArg Parts.assign hp) (congrArg Parts.profiles hp) hs

/-- Whatever a request comes to, its owner keeps the tables and the store. -/
theorem handle (h : s.Stocked) (r : Request) : (s.handle r).1.Stocked := by
  have hparts := s.handle_parts r
  have hchannels := s.handle_channels_length r
  cases r with
  | setMachine m =>
    exact h.of_tables hchannels (congrArg Parts.assign hparts) (congrArg Parts.profiles hparts)
      (h.store.of_unpinned (congrArg Parts.store hparts))
  | setProfile n p =>
    rcases s.setProfile_fst n p with e | e <;> rw [State.handle, e]
    · exact h
    · exact ⟨h.channels, h.assign, by simpa using h.profiles, h.store⟩
  | assignBars es =>
    rcases s.assignBars_fst es with e | e <;> rw [State.handle, e]
    · exact h
    · rw [State.applyAssignment_eq]
      exact ⟨by simpa using h.channels, (assignAll_length _ es).trans h.assign, h.profiles, h.store⟩
  | defineBlock id n bars =>
    refine h.of_store hparts hchannels ?_
    rcases s.defineBlock_cases id n bars with ⟨e, -⟩ | ⟨hid, hempty, hroom, e⟩ <;> rw [State.handle, e]
    · exact h.store
    · exact State.define_sound h.store hid hempty hroom
  | blockData id first cells =>
    refine h.of_store hparts hchannels ?_
    rcases s.blockData_cases id first cells with ⟨e, -⟩ | ⟨hid, hloading, e⟩ <;> rw [State.handle, e]
    · exact h.store
    · exact State.storeCells_sound h.store hid hloading cells
  | dropBlock id =>
    refine h.of_store hparts hchannels ?_
    rcases s.dropBlock_cases id with ⟨e, -⟩ | ⟨hid, hne, e⟩ <;> rw [State.handle, e]
    · exact h.store
    · exact State.drop_sound h.store hid hne
  | _ => exact h.of_parts hparts hchannels

/-- Every block in its power-on state has its tables in order and every cell free (03, R50). -/
theorem cleared (s : State) (power : Power) (cause : ResetCause) (line : PermitLine) (rate : Nat) :
    (s.cleared power cause line rate).Stocked :=
  ⟨List.length_replicate, List.length_replicate, List.length_replicate,
    State.reset.store_sound_iff.mpr ⟨List.length_replicate, State.reset_storeSound⟩⟩

theorem completeCheck (h : s.Stocked) : s.completeCheck.Stocked :=
  h.of_store s.completeCheck_parts (by unfold State.completeCheck; split <;> rfl) (State.completeCheck_sound h.store)

theorem release (h : s.Stocked) (levels : Levels) : (s.release levels).Stocked :=
  h.of_trackerMoves (s.release_trackerMoves levels) (by unfold State.release; split <;> rfl)

end State.Stocked

/-- Every piece of a step keeps the tables and the store. -/
theorem stocked_keptByPieces : KeptByPieces State.Stocked where
  outside {s t} ht h := by rw [ht]; exact ⟨h.channels, h.assign, h.profiles, h.store⟩
  handle r h := h.handle r
  perform {s} d h := h.of_parts (s.perform_parts d) (s.perform_channels_length d)
  sample {s} levels h := h.of_trackerMoves (s.sample_trackerMoves levels) (s.sample_channels_length levels)
  encoderError {s} h := h.of_trackerMoves s.encoderError_trackerMoves s.encoderError_channels_length
  arriveIndex {s} h := h.of_trackerMoves s.arriveIndex_trackerMoves s.arriveIndex_channels_length
  detectStop {s} h := h.of_trackerMoves s.detectStop_trackerMoves s.detectStop_channels_length
  exchangeBar {s} b h := h.of_parts (s.exchangeBar_parts b) (s.exchangeBar_channels_length b)
  receiveStatus {s} line bytes h :=
    h.of_parts (s.receiveStatus_parts line bytes) (s.receiveStatus_channels_length line bytes)
  expireAllowance {s} h := h.of_parts s.expireAllowance_parts s.expireAllowance_channels_length
  completeCheck h := h.completeCheck
  endLocate {s} h := h.of_parts s.endLocate_parts s.endLocate_channels_length
  cleared := State.Stocked.cleared
  motionCleared {s} h := ⟨by simpa [State.motionCleared] using h.channels, h.assign, h.profiles, h.store⟩
  powered _ h := ⟨h.channels, h.assign, h.profiles, h.store⟩
  released levels h := h.release levels

/-- Settles O58: the store's own operations keep it sound, every other piece of a step leaves it but for pins and readback, and so
every step keeps it. -/
theorem everyStepKeepsTheStore : Obligations.EveryStepKeepsTheStore := by
  intro s t ht hsized hstore
  exact t.stocked_iff.mp (stocked_keptByPieces.step (s.stocked_iff.mpr ⟨hsized, hstore⟩) ht)

end Sys2Proof.Machine
end

section
/-! PROOF. The requests of the pattern store and the end of its check (03): each judged by its table, the refusals first. -/

namespace Sys2Proof.Machine

/-! ### A store request on a quiet part with a free port -/

@[simp] theorem State.block_taken (s : State) (tag : Tag) (r : Request) (id : Nat) : (s.taken tag r).block id = s.block id :=
  rfl

@[simp] theorem State.store_taken (s : State) (tag : Tag) (r : Request) : (s.taken tag r).store = s.store := rfl

/-- What a request comes to whose owner leaves nothing due. -/
theorem exec_handled {c : Instr} {tag : Tag} {r : Request} (hc : requestOf c = some ⟨tag, r⟩) {s : State} (hq : s.Quiet)
    (hp : s.PortFree) (hd : ((s.taken tag r).handle r).1.dueStep = none) :
    exec c s = .next (((s.taken tag r).handle r).1.answered tag r ((s.taken tag r).handle r).2.result
      ((s.taken tag r).handle r).2.payload) :=
  exec_accepted hc hq hp rfl hd

/-- A request that changes the store alone makes nothing due, and is answered with it. -/
theorem exec_storeAccepted {c : Instr} {tag : Tag} {r : Request} (hc : requestOf c = some ⟨tag, r⟩) {s : State} {st : Store}
    {payload : List Byte} (hq : s.Quiet) (hp : s.PortFree)
    (hh : (s.taken tag r).handle r = ({ s.taken tag r with store := st }, accept payload)) :
    exec c s = .next ((({ s with store := st } : State).taken tag r).answered tag r .ok payload) :=
  exec_accepted hc hq hp hh hq.2.2

/-- The first bad item is found by trying the places of the list in turn. -/
theorem firstBad_eq_find? {α : Type} (bad : List α → α → Bool) (l : List α) (d : α) (n : Nat) :
    firstBad bad n [] l = ((List.range l.length).find? fun i => bad (l.take i) (l.getD i d)).map (n + ·) := by
  cases hf : (List.range l.length).find? fun i => bad (l.take i) (l.getD i d) with
  | none =>
    refine (firstBad_eq_none bad l n []).mpr fun i x hx => ?_
    have hi : i ∈ List.range l.length := List.mem_range.mpr (List.getElem?_eq_some_iff.mp hx).1
    simpa [List.getD, hx] using List.find?_eq_none.mp hf i hi
  | some i =>
    obtain ⟨hbad, hi, hfirst⟩ := List.find?_range_eq_some.mp hf
    have hx : l[i]? = some (l[i]'(List.mem_range.mp hi)) := List.getElem?_eq_getElem _
    refine (firstBad_eq_some bad l n [] (n + i)).mpr ⟨i, _, rfl, hx, ?_, fun j hj y hy => ?_⟩
    · simpa [List.getD, hx] using hbad
    · simpa [List.getD, hy] using hfirst j hj

/-! ### DEFINE_BLOCK (03, R36, R37) -/

/-- Settles O18: the model and the statement try the same cases in the same order. -/
theorem defineBlockFollowsItsTable : Obligations.DefineBlockFollowsItsTable := by
  intro tag id n bars s hq hp r cells
  have hdue : ((s.taken tag r).handle r).1.dueStep = none := by
    rcases (s.taken tag r).defineBlock_fst id n bars with e | e <;> exact (congrArg State.dueStep e).trans hq.2.2
  have hbad : firstBad badBlockBar 3 [] bars = ((List.range bars.length).find? fun i =>
      !(1 ≤ bars.getD i 0 && bars.getD i 0 ≤ 64) || (bars.take i).contains (bars.getD i 0)).map (3 + ·) :=
    firstBad_eq_find? badBlockBar bars 0 3
  rw [exec_handled (r := r) rfl hq hp hdue]
  simp only [r, cells, State.handle, State.defineBlock, hbad, State.block_taken, State.store_taken, Bool.or_eq_true,
    decide_eq_true_eq]
  cases List.find? _ (List.range bars.length) with
  | none =>
    dsimp only [Option.map_none]
    by_cases hroom : s.store.free < n * bars.length
    · simp only [hroom, if_true]
      split_ifs <;> rfl
    · simp only [hroom, if_false]
      split_ifs <;> rfl
  | some i => split_ifs <;> rfl

/-! ### BLOCK_DATA (03, R34, R38 to R40) -/

/-- A cell that a block may hold: a lap pair, or the rest marker (03, R34). -/
theorem validCell_iff (c : Cell) :
    validCell c = true ↔ (c.front ≤ 63 ∧ c.back ≤ 63) ∨ (c.front = 255 ∧ c.back = 255) := by
  simp [validCell, isRest]

theorem not_validCell_iff (c : Cell) :
    (!validCell c) = true ↔ ¬((c.front ≤ 63 ∧ c.back ≤ 63) ∨ (c.front = 255 ∧ c.back = 255)) := by
  rw [← validCell_iff, Bool.not_eq_true', Bool.not_eq_true]

/-- A block that takes its last cell is CHECKING at the tail of the check queue; one that does not stays LOADING (03, R39, R40). -/
theorem State.storeCells_eq (s : State) {id : Nat} (hid : id < s.store.blocks.length) (cells : List Cell) :
    let b := s.block id
    let next := b.cells.length + cells.length
    s.storeCells id cells = ({ s with
      store :=
        if next = cellCount b then
          { s.store with
            blocks := s.store.blocks.set id { b with state := .checking, cells := b.cells ++ cells }
            checkQueue := s.store.checkQueue ++ [id]
            checkFrom := if s.store.checkQueue = [] then s.now else s.store.checkFrom }
        else { s.store with blocks := s.store.blocks.set id { b with cells := b.cells ++ cells } } },
      accept (beBytes 4 next ++ beBytes 4 (cellCount b - next))) := by
  have hstored := State.modify_block hid fun b => { b with cells := b.cells ++ cells }
  have hjoined := State.modify_block hid fun b => { b with state := .checking, cells := b.cells ++ cells }
  have htwice : (s.store.blocks.modify id fun b => { b with cells := b.cells ++ cells }).modify id
      (fun b => { b with state := .checking }) = _ := (List.modify_modify_eq _ _ _ _).trans hjoined
  intro b next
  unfold State.storeCells State.joinChecks State.updBlock State.updStore
  dsimp only
  split
  · rw [htwice]
  · rw [hstored]

theorem blockData_goodLength {cells : List Cell} (h1 : 1 ≤ cells.length) (h96 : cells.length ≤ 96) :
    ¬(cells = [] ∨ 96 < cells.length) := by
  rintro (rfl | h)
  · simp at h1
  · omega

section

variable {s : State} {id : Nat} (hid : id ≤ 127) {first : Nat} {cells : List Cell}
include hid

theorem State.blockData_of_badLength (hlength : cells.length = 0 ∨ 96 < cells.length) :
    s.blockData id first cells = (s, refuse .badLength) := by
  simp only [State.blockData, Nat.not_lt.mpr hid, Bool.or_eq_true, decide_eq_true_eq, hlength, if_true, if_false]

variable (h1 : 1 ≤ cells.length) (h96 : cells.length ≤ 96)
include h1 h96

theorem State.blockData_of_empty (hs : (s.block id).state = .empty) :
    s.blockData id first cells = (s, refuse .noSuchBlock) := by
  simp [State.blockData, Nat.not_lt.mpr hid, blockData_goodLength h1 h96, hs]

theorem State.blockData_of_loaded (hne : (s.block id).state ≠ .empty) (hs : (s.block id).state ≠ .loading) :
    s.blockData id first cells = (s, ⟨.wrongState, [byteOf (blockStateCode (s.block id).state)]⟩) := by
  simp [State.blockData, Nat.not_lt.mpr hid, blockData_goodLength h1 h96, hne, hs]

variable (hs : (s.block id).state = .loading)
include hs

theorem State.blockData_of_outOfOrder (hfirst : first ≠ (s.block id).cells.length) :
    s.blockData id first cells = (s, ⟨.outOfOrder, beBytes 4 (s.block id).cells.length⟩) := by
  simp [State.blockData, Nat.not_lt.mpr hid, blockData_goodLength h1 h96, hs, hfirst]

variable (hfirst : first = (s.block id).cells.length)
include hfirst

theorem State.blockData_of_noRoom (hroom : cellCount (s.block id) < first + cells.length) :
    s.blockData id first cells =
      (s, ⟨.badLength, beBytes 4 (cellCount (s.block id) - (s.block id).cells.length)⟩) := by
  simp [State.blockData, Nat.not_lt.mpr hid, blockData_goodLength h1 h96, hs, ← hfirst, hroom]

variable (hroom : first + cells.length ≤ cellCount (s.block id))
include hroom

theorem State.blockData_of_badCell {i : Nat} (hi : firstBad (fun _ c => !validCell c) 0 [] cells = some i) :
    s.blockData id first cells = (s, ⟨.badCell, [byteOf i]⟩) := by
  simp [State.blockData, Nat.not_lt.mpr hid, blockData_goodLength h1 h96, hs, ← hfirst, Nat.not_lt.mpr hroom, hi]

theorem State.blockData_of_good (hgood : firstBad (fun _ c => !validCell c) 0 [] cells = none) :
    s.blockData id first cells = s.storeCells id cells := by
  simp [State.blockData, Nat.not_lt.mpr hid, blockData_goodLength h1 h96, hs, ← hfirst, Nat.not_lt.mpr hroom, hgood]

end

/-- Settles O19: accepted cells are stored, and each refusal leaves the part as it took the request. -/
theorem blockDataStoresTheCells : Obligations.BlockDataStoresTheCells := by
  refine ⟨fun tag id cells s hq hp hid h1 h96 hs hroom hvalid hsized => ?_, fun tag id first cells s hq hp => ?_⟩
  · intro b next r
    have hgood : firstBad (fun _ c => !validCell c) 0 [] cells = none :=
      (firstBad_eq_none _ cells 0 []).mpr fun i c hc => by
        simp [(validCell_iff c).mpr (hvalid c (List.mem_of_getElem? hc))]
    refine exec_storeAccepted (r := r) rfl hq hp ?_
    exact (State.blockData_of_good (s := s.taken tag r) hid h1 h96 hs rfl hroom hgood).trans
      (State.storeCells_eq (s.taken tag r) (by rw [State.store_taken, hsized]; omega) cells)
  · intro b count valid refused
    have hrefused {a : Answer} (h : (s.taken tag (.blockData id first cells)).blockData id first cells =
        (s.taken tag (.blockData id first cells), a)) : refused a.result a.payload :=
      exec_refused (r := .blockData id first cells) rfl hq hp h
    refine ⟨fun hout => hrefused (if_pos hout), fun hid hlength => hrefused (State.blockData_of_badLength hid hlength),
      fun hid h1 h96 => ⟨fun hs => hrefused (State.blockData_of_empty hid h1 h96 hs), fun hs => ?_, fun hs => ?_,
        fun hs hfirst => hrefused (State.blockData_of_outOfOrder hid h1 h96 hs hfirst),
        fun hs hfirst hroom => hrefused (State.blockData_of_noRoom hid h1 h96 hs hfirst hroom),
        fun i c hs hfirst hroom hc hbad hbefore => ?_⟩⟩
    · have hchecking := hrefused (State.blockData_of_loaded (s := s.taken tag _) hid h1 h96
        (by rw [State.block_taken, hs]; decide) (by rw [State.block_taken, hs]; decide))
      rwa [State.block_taken, hs] at hchecking
    · have hready := hrefused (State.blockData_of_loaded (s := s.taken tag _) hid h1 h96
        (by rw [State.block_taken, hs]; decide) (by rw [State.block_taken, hs]; decide))
      rwa [State.block_taken, hs] at hready
    · have hi : firstBad (fun _ c => !validCell c) 0 [] cells = some i :=
        (firstBad_eq_some _ cells 0 [] i).mpr ⟨i, c, (Nat.zero_add i).symm, hc, (not_validCell_iff c).mpr hbad,
          fun j hj x hx => by simp [(validCell_iff x).mpr (hbefore j x hj hx)]⟩
      exact hrefused (State.blockData_of_badCell (s := s.taken tag _) hid h1 h96 hs hfirst hroom hi)

/-! ### DROP_BLOCK (03, R45) -/

/-- Settles O21: the table's refusals, and the entry emptied from the head of the check queue or from elsewhere. -/
theorem dropBlockFreesTheEntry : Obligations.DropBlockFreesTheEntry := by
  intro tag id s hq hp r free
  have hrefused {a : Answer} (h : (s.taken tag r).dropBlock id = (s.taken tag r, a)) :
      exec (.dropBlock tag id) s = .next (s.replies tag r a.result a.payload) :=
    exec_refused (r := r) rfl hq hp h
  refine ⟨fun hout => hrefused (if_pos hout), fun hid hs => hrefused (a := refuse .noSuchBlock) ?_,
    fun hid hs hpins => hrefused (a := ⟨.blockInUse, [byteOf (s.block id).pins]⟩) ?_,
    fun hid hs hpins => exec_storeAccepted (r := r) rfl hq hp ?_⟩
  · simp [State.dropBlock, Nat.not_lt.mpr hid, hs]
  · simp [State.dropBlock, Nat.not_lt.mpr hid, hs, hpins]
  · have hdropped : (s.taken tag r).dropBlock id = (s.taken tag r).drop id := by
      simp [State.dropBlock, Nat.not_lt.mpr hid, hs, hpins]
    refine hdropped.trans ?_
    unfold State.drop State.leaveChecks
    rw [State.store_taken]
    by_cases hhead : s.store.checkQueue.head? = some id
    · simp only [if_pos hhead]; rfl
    · simp only [if_neg hhead]; rfl

/-! ### CHECK_COMPLETE (03, R40 to R42) -/

/-- Settles O22: the head of the check queue is READY once its check's time has passed. -/
theorem checkCompleteMakesTheBlockReady : Obligations.CheckCompleteMakesTheBlockReady := by
  intro s hq
  have hexec : exec .checkComplete s = .next s.completeCheck := congrArg Host.Outcome.next (State.event_of_quiet hq _)
  refine ⟨fun hempty => ?_, fun id rest hqueue => ?_⟩
  · rw [hexec, State.completeCheck, hempty]
  · intro b now
    rw [hexec, State.completeCheck, hqueue]
    dsimp only
    simp only [State.nextCheck, State.updStore, State.updBlock, State.advanceTo, hqueue, List.tail_cons]
    rfl

/-! ### BLOCK_INFO and the readback (03, R46 to R48) -/

theorem beBytes_one (n : Nat) : beBytes 1 n = [byteOf n] := by simp [beBytes]

theorem beBytes_two (n : Nat) : beBytes 2 n = [byteOf (n / 256), byteOf n] := by simp [beBytes]

theorem beBytes_four (n : Nat) : beBytes 4 n = beBytes 2 (n / 65536) ++ beBytes 2 n := by
  simp [beBytes, Nat.div_div_eq_div_mul]

/-- The place of a block in a queue is where the queue first names it. -/
theorem idxOf?_eq_some_of_first {l : List Nat} {k id : Nat} (hk : l[k]? = some id) (hfirst : id ∉ l.take k) :
    l.idxOf? id = some k := by
  obtain ⟨hlt, hget⟩ := List.getElem?_eq_some_iff.mp hk
  exact List.idxOf?_eq_some_iff.mpr ⟨hlt, hget, fun j hj heq => hfirst (List.mem_take_iff_getElem.mpr ⟨j, by omega, heq⟩)⟩

/-- The information of an entry, byte by byte (10, section 10.7). -/
theorem State.blockInfoBytes_eq {s : State} {id k : Nat}
    (hk : ((s.block id).state = .checking ∧ s.store.checkQueue[k]? = some id ∧ id ∉ s.store.checkQueue.take k) ∨
      ((s.block id).state ≠ .checking ∧ k = 0)) :
    s.blockInfoBytes id = byteOf (blockStateCode (s.block id).state) :: (beBytes 2 (s.block id).courses ++
      byteOf (s.block id).bars.length :: ((s.block id).bars.map byteOf ++ beBytes 4 (cellCount (s.block id)) ++
        beBytes 4 (s.block id).cells.length ++ byteOf k :: boolByte (s.block id).digest.isSome ::
          (beBytes 2 ((s.block id).digest.getD 0).toNat ++ byteOf (s.block id).pins :: beBytes 4 s.store.free))) := by
  have hplace : (if (s.block id).state = .checking then (s.store.checkQueue.idxOf? id).getD 0 else 0) = k := by
    rcases hk with ⟨hs, hk, hfirst⟩ | ⟨hs, rfl⟩
    · rw [if_pos hs, idxOf?_eq_some_of_first hk hfirst]; rfl
    · exact if_neg hs
  simp [State.blockInfoBytes, hplace, beBytes_one]

/-- A readback returns at most 96 cells, and those that are left when there are fewer (03, R48). -/
theorem readCells_eq {b : Block} (hb : b.cells.length = cellCount b) (i : Nat) :
    readCells b i = (b.cells.drop i).take (min 96 (cellCount b - i)) := by
  rw [readCells, List.take_eq_take_min, List.length_drop, hb]

theorem readCells_length {b : Block} (hb : b.cells.length = cellCount b) (i : Nat) :
    (readCells b i).length = min 96 (cellCount b - i) := by
  rw [readCells, List.length_take, List.length_drop, hb]

section

variable {s : State}

theorem State.blockInfo_of_good {id : Nat} (hid : id ≤ 127) : s.blockInfo id = (s, accept (s.blockInfoBytes id)) :=
  if_neg (Nat.not_lt.mpr hid)

theorem State.readBlockStart_of_ready {id : Nat} (hid : id ≤ 127) (hs : (s.block id).state = .ready) (course : Nat) :
    s.readBlockStart id course = (s.updStore fun st => { st with readCursor := some ⟨id, readStart (s.block id) course⟩ },
      accept (beBytes 4 (readStart (s.block id) course) ++ beBytes 4 (cellCount (s.block id)) ++
        beBytes 2 ((s.block id).digest.getD 0).toNat)) := by
  simp [State.readBlockStart, Nat.not_lt.mpr hid, hs]

theorem State.readBlockStart_of_empty {id : Nat} (hid : id ≤ 127) (hs : (s.block id).state = .empty) (course : Nat) :
    s.readBlockStart id course = (s, refuse .noSuchBlock) := by
  simp [State.readBlockStart, Nat.not_lt.mpr hid, hs]

theorem State.readBlockStart_of_unready {id : Nat} (hid : id ≤ 127)
    (hs : (s.block id).state = .loading ∨ (s.block id).state = .checking) (course : Nat) :
    s.readBlockStart id course = (s, refuse .blockNotReady) := by
  rcases hs with hs | hs <;> simp [State.readBlockStart, Nat.not_lt.mpr hid, hs]

theorem State.readBlockNext_of_none (hc : s.store.readCursor = none) : s.readBlockNext = (s, refuse .noReadCursor) := by
  rw [State.readBlockNext, hc]

/-- A readback returns the next cells and moves the cursor past them (03, R48). -/
theorem State.readBlockNext_of_some {id i : Nat} (hc : s.store.readCursor = some ⟨id, i⟩)
    (hb : (s.block id).cells.length = cellCount (s.block id)) :
    let k := min 96 (cellCount (s.block id) - i)
    s.readBlockNext = (s.updStore fun st => { st with readCursor := some ⟨id, i + k⟩ },
      accept (beBytes 4 i ++ [if cellCount (s.block id) ≤ i then 1 else 0] ++ beBytes 1 k ++
        cellBytes (((s.block id).cells.drop i).take k))) := by
  intro k
  rw [State.readBlockNext, hc]
  dsimp only
  rw [readCells_length hb, readCells_eq hb]
  simp only [boolByte, decide_eq_true_eq, k]

end

/-- Settles O24: what each request answers, its bytes written out. -/
theorem readbackReturnsTheCells : Obligations.ReadbackReturnsTheCells := by
  refine ⟨fun tag id course s hq hp => ?_, fun tag id course s hq hp => ?_⟩
  · intro at_
    refine ⟨fun hid => ?_, fun hid hs => ?_, fun hc => ?_, fun i hc hb => ?_⟩
    · exact exec_refused (r := .blockInfo id) rfl hq hp (State.blockInfo_of_good hid)
    · exact exec_storeAccepted (r := .readBlockStart id course) rfl hq hp
        (State.readBlockStart_of_ready (s := s.taken tag _) hid hs course)
    · exact exec_refused (r := .readBlockNext) rfl hq hp (State.readBlockNext_of_none (s := s.taken tag _) hc)
    · exact exec_storeAccepted (r := .readBlockNext) rfl hq hp
        (State.readBlockNext_of_some (s := s.taken tag _) hc hb)
  · intro b two four
    have hstart {a : Answer} (h : (s.taken tag (.readBlockStart id course)).readBlockStart id course =
        (s.taken tag (.readBlockStart id course), a)) : exec (.readBlockStart tag id course) s =
          .next (s.replies tag (.readBlockStart id course) a.result a.payload) :=
      exec_refused (r := .readBlockStart id course) rfl hq hp h
    refine ⟨fun k hid hk => ?_, fun hout => ⟨?_, hstart (if_pos hout)⟩,
      fun hid hs => hstart (State.readBlockStart_of_empty (s := s.taken tag _) hid hs course),
      fun hid hs => hstart (State.readBlockStart_of_unready (s := s.taken tag _) hid hs course)⟩
    · have htwo : two = beBytes 2 := funext fun x => (beBytes_two x).symm
      have hfour : four = beBytes 4 := funext fun x => by rw [beBytes_four, ← htwo]
      refine (exec_refused (c := .blockInfo tag id) (r := .blockInfo id) rfl hq hp (State.blockInfo_of_good hid)).trans ?_
      refine congrArg (fun p => Host.Outcome.next (s.replies tag (.blockInfo id) .ok p)) ((State.blockInfoBytes_eq hk).trans ?_)
      rw [htwo, hfour]
      dsimp only [b]
      cases (s.block id).state <;> cases (s.block id).digest <;>
        simp [cellCount, blockStateCode, byteOf, boolByte, beBytes_two]
    · exact exec_refused (a := badField 0) (r := .blockInfo id) rfl hq hp (if_pos hout)

/-! ### The refusals (03, R36, R38, R45 to R48) -/

theorem State.readBlockStart_cases (s : State) (id course : Nat) :
    (s.readBlockStart id course).1 = s ∨ (s.readBlockStart id course).2.result = .ok := by
  unfold State.readBlockStart
  dsimp only
  split
  · exact .inl rfl
  · split
    · exact .inl rfl
    · split
      · exact .inl rfl
      · exact .inr rfl

theorem State.readBlockNext_cases (s : State) : s.readBlockNext.1 = s ∨ s.readBlockNext.2.result = .ok := by
  unfold State.readBlockNext
  split
  · exact .inl rfl
  · exact .inr rfl

/-- Settles O20: each owner's inversion lemma says that what is not accepted changes nothing. -/
theorem refusedStoreRequestsChangeNothing : Obligations.RefusedStoreRequestsChangeNothing := by
  intro s id n bars cells r hr hrefused
  rcases hr with rfl | rfl | rfl | rfl | rfl | rfl
  · rcases s.defineBlock_cases id n bars with ⟨h, -⟩ | ⟨-, -, -, h⟩
    · exact h
    · exact absurd (congrArg (fun a => a.2.result) h) hrefused
  · rcases s.blockData_cases id n cells with ⟨h, -⟩ | ⟨-, -, h⟩
    · exact h
    · exact absurd (congrArg (fun a => a.2.result) h) hrefused
  · rcases s.dropBlock_cases id with ⟨h, -⟩ | ⟨-, -, h⟩
    · exact h
    · exact absurd (congrArg (fun a => a.2.result) h) hrefused
  · rcases s.readBlockStart_cases id n with h | h
    · exact h
    · exact absurd h hrefused
  · exact s.blockInfo_fst id
  · rcases s.readBlockNext_cases with h | h
    · exact h
    · exact absurd h hrefused

/-! ### The CRC (03, R41) -/

/-- Settles O23: a byte is taken bit by bit from its top bit; the examples by evaluation. -/
theorem crcFollowsItsPolynomial : Obligations.CrcFollowsItsPolynomial := by
  have hbit (r : Crc) (bit : Bool) :
      crcBit r bit = if r.getLsbD 15 = bit then r <<< 1 else (r <<< 1) ^^^ 0x1021#16 := by
    rw [crcBit, BitVec.msb_eq_getLsbD_last]
    cases r.getLsbD 15 <;> cases bit <;> rfl
  refine ⟨rfl, fun bs b => ?_, fun cs => rfl, by decide +kernel, by decide +kernel, by decide +kernel⟩
  rw [crc, List.foldl_append]
  simp only [List.foldl_cons, List.foldl_nil, crcByte, hbit]
  rfl

end Sys2Proof.Machine
end

section
/-! PROOF. The sequence player's tables (04, R51 to R53): the pins of the blocks they name (03, R43), and WRITE_SEQUENCE judged in its
two passes. -/

namespace Sys2Proof.Machine

/-! ### The blocks that a table names, and their pins (03, R43) -/

/-- An entry after the entries that a table names were changed. -/
theorem State.block_updNamed {s : State} {id : Nat} (hid : id < s.store.blocks.length) (table : List SeqStep)
    (f : Block → Block) :
    (s.updNamed table f).block id = if namesBlock table id then f (s.block id) else s.block id := by
  simp only [State.block, State.updNamed, State.updStore_store, List.getD, mapFrom_getElem?, Nat.zero_add,
    List.getElem?_eq_getElem hid, Option.map_some, Option.getD_some]

@[simp] theorem State.updNamed_blocks_length (s : State) (table : List SeqStep) (f : Block → Block) :
    (s.updNamed table f).store.blocks.length = s.store.blocks.length :=
  mapFrom_length _ 0 _

@[simp] theorem State.unpinOld_blocks_length (s : State) (old : Option (List SeqStep)) :
    (s.unpinOld old).store.blocks.length = s.store.blocks.length := by
  cases old with
  | none => rfl
  | some table => exact s.updNamed_blocks_length table _

/-- An entry that the table names gains one pin, however many steps name it. -/
theorem State.block_pin {s : State} {id : Nat} (hid : id < s.store.blocks.length) (table : List SeqStep) :
    (s.pin table).block id = { s.block id with
      pins := (s.block id).pins + if table.any (fun t => t.block == id) then 1 else 0 } := by
  rw [State.pin, State.block_updNamed hid, namesBlock]
  split <;> rfl

/-- An entry that the table names, where there is one, loses one pin. -/
theorem State.block_unpinOld {s : State} {id : Nat} (hid : id < s.store.blocks.length) (old : Option (List SeqStep)) :
    (s.unpinOld old).block id = { s.block id with
      pins := (s.block id).pins - if (old.getD []).any (fun t => t.block == id) then 1 else 0 } := by
  cases old with
  | none => rfl
  | some table =>
    rw [State.unpinOld, State.unpin, State.block_updNamed hid, namesBlock, Option.getD_some]
    split <;> rfl

/-- Unpinning changes the block table alone. -/
theorem State.unpinOld_eq (s : State) (old : Option (List SeqStep)) :
    s.unpinOld old = { s with store := { s.store with blocks := (s.unpinOld old).store.blocks } } := by
  cases old <;> rfl

/-! ### What the store and the player have to do with the steps that come due (09, R160) -/

/-- Of the store and the player, the search alone bears on what is due: one in flight can only put an alignment off. -/
theorem State.dueStep_of_search {s : State} (st : Store) {p : Player}
    (hp : p.search = none → s.player.search = none) (h : s.dueStep = none) :
    State.dueStep { s with store := st, player := p } = none := by
  have hfit : State.fitForRun { s with store := st, player := p } = true → s.fitForRun = true := by
    simp only [State.fitForRun, Bool.and_eq_true, Option.isNone_iff_eq_none]
    exact fun ⟨hshaft, hsearch⟩ => ⟨hshaft, hp hsearch⟩
  revert h
  unfold State.dueStep
  dsimp only
  split
  case h_3 =>
    refine fun hnone => if_neg fun hnew => ?_
    rw [if_pos (hfit hnew)] at hnone
    cases hnone
  all_goals exact id

/-! ### The judging of counts and lists -/

/-- The check of a range that begins at 1, passed and failed. -/
theorem rangeCheck_of_good {n high : Nat} (h1 : 1 ≤ n) (h : n ≤ high) :
    (decide (n < 1) || decide (high < n)) = false := by
  simp only [Bool.or_eq_false_iff, decide_eq_false_iff_not]; omega

theorem rangeCheck_of_bad {n high : Nat} (h : n < 1 ∨ high < n) : (decide (n < 1) || decide (high < n)) = true := by
  simpa using h

/-- A list is cut at one of its items. -/
theorem exists_split_of_getElem? {α : Type} {l : List α} {i : Nat} {x : α} (h : l[i]? = some x) :
    ∃ rest, l = l.take i ++ x :: rest ∧ (l.take i).length = i := by
  obtain ⟨hi, rfl⟩ := List.getElem?_eq_some_iff.mp h
  refine ⟨l.drop (i + 1), ?_, List.length_take_of_le hi.le⟩
  rw [List.getElem_cons_drop, List.take_append_drop]

theorem not_mem_take_of_nodup {α : Type} {l : List α} (h : l.Nodup) {i : Nat} {x : α} (hx : l[i]? = some x) :
    x ∉ l.take i := by
  obtain ⟨rest, hsplit, -⟩ := exists_split_of_getElem? hx
  rw [hsplit] at h
  exact fun hmem => (List.nodup_append.mp h).2.2 x hmem x (List.mem_cons_self ..) rfl

theorem forall_mem_take {α : Type} {l : List α} {i : Nat} {p : α → Prop}
    (h : ∀ j x, j < i → l[j]? = some x → p x) : ∀ x ∈ l.take i, p x := by
  intro x hx
  obtain ⟨j, hj, rfl⟩ := List.mem_take_iff_getElem.mp hx
  exact h j _ (by omega) (List.getElem?_eq_getElem _)

/-! ### WRITE_SEQUENCE (04, R52, R53) -/

/-- Good steps are passed over, two fields each. -/
theorem badStepField_append {before : List SeqStep} (h : ∀ t ∈ before, t.block ≤ 127 ∧ 1 ≤ t.reps) (n : Nat)
    (ts : List SeqStep) : badStepField n (before ++ ts) = badStepField (n + 2 * before.length) ts := by
  induction before generalizing n with
  | nil => rfl
  | cons t before ih =>
    obtain ⟨⟨hblock, hreps⟩, hrest⟩ := List.forall_mem_cons.mp h
    rw [List.cons_append, badStepField, if_neg (Nat.not_lt.mpr hblock), if_neg (by omega), ih hrest, List.length_cons]
    congr 1
    omega

theorem badStepField_of_good {steps : List SeqStep} (h : ∀ t ∈ steps, t.block ≤ 127 ∧ 1 ≤ t.reps) :
    badStepField 1 steps = none := by
  simpa [badStepField] using badStepField_append h 1 []

/-- The first bad step decides, its block id before its repeat count. -/
theorem badStepField_first {steps : List SeqStep} {i : Nat} {t : SeqStep} (ht : steps[i]? = some t)
    (h : ∀ j x, j < i → steps[j]? = some x → x.block ≤ 127 ∧ 1 ≤ x.reps) :
    (127 < t.block → badStepField 1 steps = some (1 + 2 * i)) ∧
    (t.block ≤ 127 → t.reps = 0 → badStepField 1 steps = some (2 + 2 * i)) := by
  obtain ⟨rest, hsplit, hlength⟩ := exists_split_of_getElem? ht
  have hfirst : badStepField 1 steps = badStepField (1 + 2 * i) (t :: rest) := by
    rw [hsplit, badStepField_append (forall_mem_take h), hlength]
  rw [hfirst, badStepField]
  refine ⟨fun hblock => if_pos hblock, fun hblock hreps => ?_⟩
  rw [if_neg (Nat.not_lt.mpr hblock), if_pos hreps]
  congr 1
  omega

section

variable {s : State} {steps : List SeqStep}

theorem State.writeSequence_of_badCount (h : steps.length = 0 ∨ 64 < steps.length) :
    s.writeSequence steps = (s, badField 0) := by
  rw [State.writeSequence, if_pos (rangeCheck_of_bad (by rwa [Nat.lt_one_iff]))]

variable (h1 : 1 ≤ steps.length) (h64 : steps.length ≤ 64)
include h1 h64

theorem State.writeSequence_of_badField {i : Nat} (hi : badStepField 1 steps = some i) :
    s.writeSequence steps = (s, badField i) := by
  simp only [State.writeSequence, rangeCheck_of_good h1 h64, hi, Bool.false_eq_true, if_false]

variable (hgood : ∀ t ∈ steps, t.block ≤ 127 ∧ 1 ≤ t.reps)
include hgood

theorem State.writeSequence_of_notReady {i : Nat} {t : SeqStep} (ht : steps[i]? = some t)
    (hstate : (s.block t.block).state ≠ .ready)
    (hfirst : ∀ j x, j < i → steps[j]? = some x → (s.block x.block).state = .ready) :
    s.writeSequence steps = (s, ⟨.blockNotReady, [byteOf i]⟩) := by
  have hi : firstBad (fun _ t => !s.isReady t.block) 0 [] steps = some i :=
    (firstBad_eq_some _ steps 0 [] i).mpr ⟨i, t, (Nat.zero_add i).symm, ht, by simpa [State.isReady] using hstate,
      fun j hj x hx => by simpa [State.isReady] using hfirst j x hj hx⟩
  simp only [State.writeSequence, rangeCheck_of_good h1 h64, badStepField_of_good hgood, hi, Bool.false_eq_true,
    if_false]

theorem State.writeSequence_of_good (hready : ∀ t ∈ steps, (s.block t.block).state = .ready) :
    s.writeSequence steps =
      ({ s with
          store := ((s.unpinOld s.player.pending).pin steps).store, player := { s.player with pending := some steps } },
        accept (beBytes 4 (s.passLength steps))) := by
  have hnone : firstBad (fun _ t => !s.isReady t.block) 0 [] steps = none :=
    (firstBad_eq_none _ steps 0 []).mpr fun i t ht => by
      simpa [State.isReady] using hready t (List.mem_of_getElem? ht)
  simp only [State.writeSequence, rangeCheck_of_good h1 h64, badStepField_of_good hgood, hnone, Bool.false_eq_true,
    if_false, State.updPlayer]
  cases s.player.pending <;> rfl

end

/-- Settles O25: the pins move entry by entry, and each refusal leaves the part as it took the request. -/
theorem writeSequenceReplacesPending : Obligations.WriteSequenceReplacesPending := by
  refine ⟨fun tag steps s hq hp h1 h64 hsteps hsized => ?_, fun tag steps s hq hp => ?_⟩
  · have hgood : ∀ t ∈ steps, t.block ≤ 127 ∧ 1 ≤ t.reps := fun t ht => ⟨(hsteps t ht).1, (hsteps t ht).2.1⟩
    refine ⟨_, exec_accepted (r := .writeSequence steps) rfl hq hp
      (State.writeSequence_of_good (s := s.taken tag _) h1 h64 hgood fun t ht => (hsteps t ht).2.2)
      (State.dueStep_of_search _ id hq.2.2), rfl, fun id hid => ?_, ?_, rfl, _, _, rfl⟩
    · refine (State.block_pin (s := (s.taken tag _).unpinOld s.player.pending) ?_ steps).trans ?_
      · rw [State.unpinOld_blocks_length, State.store_taken, hsized]; omega
      · rw [State.block_unpinOld (by rw [State.store_taken, hsized]; omega)]; rfl
    · show ((State.unpinOld (s.taken tag _) s.player.pending).pin steps).store = _
      rw [State.unpinOld_eq]
      rfl
  · intro good refused
    have hrefused {a : Answer} (h : (s.taken tag (.writeSequence steps)).writeSequence steps =
        (s.taken tag (.writeSequence steps), a)) : refused a.result a.payload :=
      exec_refused (r := .writeSequence steps) rfl hq hp h
    refine ⟨fun hcount => hrefused (State.writeSequence_of_badCount hcount), fun h1 h64 =>
      ⟨fun i t ht hbefore => ?_, fun i t hgood ht hstate hbefore => ?_⟩⟩
    · obtain ⟨hblock, hreps⟩ := badStepField_first ht hbefore
      exact ⟨fun h => hrefused (State.writeSequence_of_badField h1 h64 (hblock h)),
        fun h h0 => hrefused (State.writeSequence_of_badField h1 h64 (hreps h h0))⟩
    · exact hrefused (State.writeSequence_of_notReady (s := s.taken tag _) h1 h64 hgood ht hstate hbefore)

end Sys2Proof.Machine
end

section
/-! PROOF. SWITCH_SEQUENCE (04, R54 to R57): what a switch that takes effect does, and the table of the request. -/

namespace Sys2Proof.Machine

/-! ### A request whose owner may make something due (10, R179; log 25) -/

/-- What a request of a quiet part with a free port comes to: its owner's answer, behind the steps that it makes due. -/
theorem exec_settled {c : Instr} {tag : Tag} {r : Request} (hc : requestOf c = some ⟨tag, r⟩) {s t : State} {a : Answer}
    (hq : s.Quiet) (hp : s.PortFree) (hh : (s.taken tag r).handle r = (t, a)) :
    exec c s = .next (t.settleRun.answered tag r a.result a.payload) := by
  rw [exec_of_requestOf hc, State.goesOn, State.event_of_quiet hq, State.request_of_free hq hp]
  simp only [State.answer, hh]
  rfl

/-- Feeding makes nothing due where nothing is requested. -/
theorem State.dueStep_feed {s : State} (hc : s.run.changing = false) (hw : s.run.waiting = false) :
    s.feed.dueStep = none := by
  obtain ⟨-, -, hwaiting, hchanging, -⟩ := s.feed_run_keeps
  exact State.dueStep_idle (hchanging.trans hc) (hwaiting.trans hw)

/-! ### SWITCH_SEQUENCE (04, R54 to R57) -/

section

variable {s : State}

theorem State.takeSwitch_of_none (h : s.player.pending = none) (mode : SwitchMode) : s.takeSwitch mode = s := by
  unfold State.takeSwitch
  rw [h]

/-- A switch that takes effect (R56, R57). -/
theorem State.takeSwitch_eq {table : List SeqStep} (h : s.player.pending = some table) (mode : SwitchMode) :
    s.takeSwitch mode = { s.unpinOld s.player.active with
      player := { s.player with
        active := some table, pending := none, recorded := none, cursor := ⟨0, 0, 0⟩, pass := 0 }
      link := s.link.offer ⟨.sequenceSwitched (if s.player.active.isSome then s.player.pass else 0) table.length,
        modeCode mode, (table.head?.map SeqStep.block).getD 0, s.player.fed, s.tracker.angle⟩ } := by
  unfold State.takeSwitch
  rw [h]
  cases hactive : s.player.active with
  | none => rfl
  | some old =>
    have hpass : BitVec.ofNat 32 s.player.pass.toNat = s.player.pass := by simp
    simp only [Option.isSome_some, if_true, hpass]
    rfl

/-- A switch that takes effect with no ACTIVE table before it: no pins are released, and the pass count before is 0. -/
theorem State.takeSwitch_first {table : List SeqStep} (h : s.player.pending = some table) (ha : s.player.active = none)
    (mode : SwitchMode) : s.takeSwitch mode = { s with
      player := { s.player with
        active := some table, pending := none, recorded := none, cursor := ⟨0, 0, 0⟩, pass := 0 }
      link := s.link.offer ⟨.sequenceSwitched 0 table.length, modeCode mode, (table.head?.map SeqStep.block).getD 0,
        s.player.fed, s.tracker.angle⟩ } := by
  rw [State.takeSwitch_eq h, ha]
  rfl

theorem State.switchSequence_of_badMode {mode : Nat} (h : 2 < mode) : s.switchSequence mode = (s, badField 0) :=
  if_pos h

theorem State.switchSequence_of_none (h : s.player.pending = none) {mode : Nat} (hmode : mode ≤ 2) :
    s.switchSequence mode = (s, refuse .noSequence) := by
  simp [State.switchSequence, Nat.not_lt.mpr hmode, h]

theorem modeCode_le (mode : SwitchMode) : modeCode mode ≤ 2 := by cases mode <;> decide

variable (h : s.player.pending.isSome = true)
include h

theorem State.switchSequence_now : s.switchSequence 0 = s.switchNow := by
  simp [State.switchSequence, Option.isSome_iff_ne_none.mp h]

theorem State.switchSequence_timed {mode : SwitchMode} (hmode : mode ≠ .now) :
    s.switchSequence (modeCode mode) = s.switchTimed mode := by
  cases mode with
  | now => exact absurd rfl hmode
  | atStepEnd | atPassEnd => simp [State.switchSequence, modeCode, Option.isSome_iff_ne_none.mp h]

end

/-- The check of WRONG_STATE passes in STANDBY and HOLD. -/
theorem RunState.not_moving {x : RunState} (h : x = .standby ∨ x = .hold) : ¬(x ≠ .standby ∧ x ≠ .hold) := by tauto

section

variable {s : State}

theorem State.switchNow_of_moving (hs : s.run.state ≠ .standby) (hh : s.run.state ≠ .hold) :
    s.switchNow = (s, refuse .wrongState) := by
  simp [State.switchNow, hs, hh]

variable (hs : s.run.state = .standby ∨ s.run.state = .hold)
include hs

theorem State.switchNow_of_busy (hbusy : s.run.changing = true ∨ s.player.search.isSome = true) :
    s.switchNow = (s, refuse .busy) := by
  rcases hbusy with h | h <;> simp [State.switchNow, RunState.not_moving hs, h]

theorem State.switchNow_of_good (hc : s.run.changing = false) (hsearch : s.player.search = none) :
    s.switchNow = (((s.takeSwitch .now).updPlayer fun p => { p with feedStopped := false }).feed,
      accept (switchPayload .now true s.player.fed)) := by
  simp [State.switchNow, RunState.not_moving hs, hc, hsearch]

end

theorem State.switchTimed_of_active {s : State} (h : s.player.active.isSome = true) (mode : SwitchMode) :
    s.switchTimed mode =
      ({ s with player := { s.player with recorded := some mode } }, accept (switchPayload mode false 0)) := by
  simp only [State.switchTimed, Option.isNone_eq_false_iff.mpr h, Bool.false_eq_true, if_false]
  rfl

theorem State.switchTimed_of_none {s : State} (h : s.player.active = none) (mode : SwitchMode) :
    s.switchTimed mode = ((s.takeSwitch mode).feed, accept (switchPayload mode true s.player.fed)) := by
  simp [State.switchTimed, h]

/-- Settles O26: a switch that is taken is the state written out, fed where it may be; each refusal leaves the part as it took the
request. -/
theorem switchesTakePendingInTheirTime : Obligations.SwitchesTakePendingInTheirTime := by
  refine ⟨fun tag table s hq hp hs hc hw hsearch hpending => ?_, fun tag mode s hq hp hmode => ?_,
    fun tag s hq hp => ?_⟩
  · intro old r switched
    have hhandle : (s.taken tag r).handle r = (switched.feed, accept (switchPayload .now true s.player.fed)) := by
      refine (State.switchSequence_now (s := s.taken tag r) (Option.isSome_iff_exists.mpr ⟨table, hpending⟩)).trans ?_
      rw [State.switchNow_of_good (s := s.taken tag r) hs hc hsearch,
        State.takeSwitch_eq (s := s.taken tag r) hpending]
      rfl
    have hrun : switched.run = s.run := by
      show ((s.taken tag r).unpinOld s.player.active).run = s.run
      rw [State.unpinOld_eq]
      rfl
    exact exec_accepted (r := r) rfl hq hp hhandle (State.dueStep_feed (by rw [hrun, hc]) (by rw [hrun, hw]))
  · intro r
    refine ⟨fun hpending hactive => ?_, fun hpending => ?_⟩
    · have hhandle := (State.switchSequence_timed (s := s.taken tag r) hpending hmode).trans
        (State.switchTimed_of_active (s := s.taken tag r) hactive mode)
      exact exec_accepted (r := r) rfl hq hp hhandle (State.dueStep_of_search (s := s.taken tag r) _ id hq.2.2)
    · exact exec_refused (r := r) rfl hq hp (State.switchSequence_of_none (s := s.taken tag r) hpending (modeCode_le mode))
  · intro refused
    have hrefused {x : Result} (h : (s.taken tag (.switchSequence 0)).switchSequence 0 =
        (s.taken tag (.switchSequence 0), refuse x)) : refused x :=
      exec_refused (r := .switchSequence 0) rfl hq hp h
    have hnow (hpending : s.player.pending.isSome = true) :=
      State.switchSequence_now (s := s.taken tag (.switchSequence 0)) hpending
    refine ⟨fun mode hmode =>
        exec_refused (r := .switchSequence mode) rfl hq hp (State.switchSequence_of_badMode hmode), rfl,
      fun hpending => hrefused (State.switchSequence_of_none (s := s.taken tag _) hpending (by decide)),
      fun hpending hs hh => hrefused ((hnow hpending).trans (State.switchNow_of_moving (s := s.taken tag _) hs hh)),
      fun hpending hs hbusy => hrefused ((hnow hpending).trans (State.switchNow_of_busy (s := s.taken tag _) hs hbusy)), ?_⟩
    intro mode table hmode hpending hactive r switched
    refine exec_settled (c := .switchSequenceTimed tag (modeCode mode)) (r := r) (t := switched.feed)
      (a := accept (switchPayload mode true s.player.fed)) rfl hq hp ?_
    refine (State.switchSequence_timed (s := s.taken tag r) (Option.isSome_iff_exists.mpr ⟨table, hpending⟩) hmode).trans ?_
    rw [State.switchTimed_of_none (s := s.taken tag r) hactive,
      State.takeSwitch_first (s := s.taken tag r) hpending hactive]
    rfl

end Sys2Proof.Machine
end

section
/-! PROOF. SET_CURSOR and OPEN_STREAM (04, R64, R65; 05, R75, R84 to R87): their tables, and the fresh start that each brings. -/

namespace Sys2Proof.Machine

/-! ### Cleared lists (05, R84; 09, R154) -/

/-- Where the permit is 0 already, clearing the lists changes them and the planner alone. -/
theorem State.clearLists_of_still {s : State} (hs : s.run.state = .standby ∨ s.run.state = .hold) (hp : s.PermitSound) :
    s.clearLists = { s with lists := s.lists.cleared, planner := ⟨0, .none⟩ } := by
  have hne : s.run.state ≠ .run := by rcases hs with h | h <;> rw [h] <;> decide
  have hpermit : State.permitToPublish { s with lists := s.lists.cleared, planner := ⟨0, .none⟩ } = s.run.published := by
    rw [hp (.inl hne)]
    simp [State.permitToPublish, hne]
  exact if_pos hpermit

/-- With empty lists nothing is due outside a change in STANDBY and HOLD (09, R160). -/
theorem State.dueStep_of_noCurrent {s : State} (hs : s.run.state = .standby ∨ s.run.state = .hold)
    (hc : s.run.changing = false) (hcurrent : s.lists.current = none) : s.dueStep = none := by
  have hfit : s.fitForRun = false := by simp [State.fitForRun, hcurrent]
  rcases hs with h | h
  · exact State.dueStep_standby h hc
  · unfold State.dueStep
    rw [hc, h]
    split <;> simp_all

/-! ### SET_CURSOR (04, R64, R65) -/

section

variable {s : State} {table : List SeqStep} {c : FeedCursor}

theorem State.badPlace_of_step (h : table.length ≤ c.step) : s.badPlace table c = some 0 := by
  simp [State.badPlace, h]

variable {t : SeqStep} (ht : table[c.step]? = some t)
include ht

theorem State.badPlace_of_rep (h : t.reps ≤ c.rep) : s.badPlace table c = some 1 := by
  simp [State.badPlace, ht, h]

theorem State.badPlace_of_course (h : c.rep < t.reps) (hcourse : (s.block t.block).courses ≤ c.course) :
    s.badPlace table c = some 2 := by
  simp [State.badPlace, ht, h, hcourse]

theorem State.badPlace_of_good (h : c.rep < t.reps) (hcourse : c.course < (s.block t.block).courses) :
    s.badPlace table c = none := by
  simp [State.badPlace, ht, Nat.not_le.mpr h, Nat.not_le.mpr hcourse]

end

section

variable {s : State} {c : FeedCursor}

theorem State.setCursor_of_moving (hs : s.run.state ≠ .standby) (hh : s.run.state ≠ .hold) :
    s.setCursor c = (s, refuse .wrongState) := by
  simp [State.setCursor, hs, hh]

variable (hs : s.run.state = .standby ∨ s.run.state = .hold)
include hs

theorem State.setCursor_of_busy (hbusy : s.run.changing = true ∨ s.player.search.isSome = true) :
    s.setCursor c = (s, refuse .busy) := by
  rcases hbusy with h | h <;> simp [State.setCursor, RunState.not_moving hs, h]

variable (hc : s.run.changing = false) (hsearch : s.player.search = none)
include hc hsearch

theorem State.setCursor_of_noTable (hactive : s.player.active = none) : s.setCursor c = (s, refuse .noSequence) := by
  simp [State.setCursor, RunState.not_moving hs, hc, hsearch, hactive]

variable {table : List SeqStep} (hactive : s.player.active = some table)
include hactive

theorem State.setCursor_of_badPlace {i : Nat} (hi : s.badPlace table c = some i) :
    s.setCursor c = (s, badField i) := by
  simp [State.setCursor, RunState.not_moving hs, hc, hsearch, hactive, hi]

/-- SET_CURSOR accepted: the lists are those after reset, so that the source is the player and no stream is open. -/
theorem State.setCursor_of_good (hp : s.PermitSound) (hgood : s.badPlace table c = none) :
    s.setCursor c = (State.feed { s with
      player := { s.player with cursor := c, pass := 0, fed := 0, feedStopped := false }
      lists := Lists.initial
      planner := ⟨0, .none⟩ }, accept []) := by
  have hcleared := State.clearLists_of_still (s := (s.updPlayer fun p =>
    { p with cursor := c, pass := 0, fed := 0, feedStopped := false }).updLists fun l =>
      { l.closeStream with source := .player }) hs hp
  have hchosen : s.setCursor c = (State.feed (State.clearLists ((s.updPlayer fun p =>
      { p with cursor := c, pass := 0, fed := 0, feedStopped := false }).updLists fun l =>
        { l.closeStream with source := .player })), accept []) := by
    simp [State.setCursor, RunState.not_moving hs, hc, hsearch, hactive, hgood]
  rw [hchosen, hcleared]
  rfl

end

/-! ### OPEN_STREAM (05, R86, R87) -/

/-- A bar of a stream is bad outside 1 to 64, named before, or ABSENT (R86). -/
theorem State.badStreamBar_iff (s : State) (before : List Nat) (b : Nat) :
    s.badStreamBar before b = true ↔ ¬(1 ≤ b ∧ b ≤ 64 ∧ b ∉ before ∧ s.assigned b = true) := by
  rw [← not_iff_not]
  simp [State.badStreamBar, barExists, and_assoc, Nat.one_le_iff_ne_zero]

section

variable {s : State} {first : Tag} {bars : List Nat}

theorem State.openStream_of_moving (hs : s.run.state ≠ .standby) (hh : s.run.state ≠ .hold) :
    s.openStream first bars = (s, refuse .wrongState) := by
  simp [State.openStream, hs, hh]

variable (hs : s.run.state = .standby ∨ s.run.state = .hold)
include hs

theorem State.openStream_of_busy (hc : s.run.changing = true) : s.openStream first bars = (s, refuse .busy) := by
  simp [State.openStream, RunState.not_moving hs, hc]

variable (hc : s.run.changing = false)
include hc

theorem State.openStream_of_badCount (h : bars.length < 1 ∨ 64 < bars.length) :
    s.openStream first bars = (s, badField 1) := by
  simp only [State.openStream, hc, rangeCheck_of_bad h, Bool.and_eq_true, decide_eq_true_eq, RunState.not_moving hs,
    Bool.false_eq_true, if_false, if_true]

variable (h1 : 1 ≤ bars.length) (h64 : bars.length ≤ 64)
include h1 h64

theorem State.openStream_of_badBar {i : Nat} (hi : firstBad s.badStreamBar 2 [] bars = some i) :
    s.openStream first bars = (s, badField i) := by
  simp only [State.openStream, hc, rangeCheck_of_good h1 h64, hi, Bool.and_eq_true, decide_eq_true_eq, RunState.not_moving hs,
    Bool.false_eq_true, if_false]

theorem State.openStream_of_good (hp : s.PermitSound) (hgood : firstBad s.badStreamBar 2 [] bars = none) :
    s.openStream first bars = ({ s with
      lists := { Lists.initial with source := .stream, streamOpen := true, streamBars := bars, expected := some first }
      planner := ⟨0, .none⟩ }, accept []) := by
  simp only [State.openStream, hc, rangeCheck_of_good h1 h64, hgood, Bool.and_eq_true, decide_eq_true_eq,
    RunState.not_moving hs, Bool.false_eq_true, if_false, State.clearLists_of_still hs hp]
  rfl

end

/-- Settles O27: an accepted request leaves lists and planner as after reset, but for the source; each refusal leaves the part
as it took the request. -/
theorem choosingASourceStartsAfresh : Obligations.ChoosingASourceStartsAfresh := by
  refine ⟨fun tag c table step s hq hp hs hc hw hsound hsearch hactive hstep hrep hcourse => ?_, fun tag c s hq hp => ?_,
    fun tag first bars s hq hp hs hc hsound h1 h64 hbars hnodup => ?_, fun tag first bars s hq hp => ?_⟩
  · have hhandle := State.setCursor_of_good (s := s.taken tag (.setCursor c)) hs hc hsearch hactive hsound
      (State.badPlace_of_good hstep hrep hcourse)
    exact exec_accepted (r := .setCursor c) rfl hq hp hhandle (State.dueStep_feed hc hw)
  · intro refused
    have hrefused {a : Answer} (h : (s.taken tag (.setCursor c)).setCursor c = (s.taken tag (.setCursor c), a)) :
        refused a.result a.payload :=
      exec_refused (r := .setCursor c) rfl hq hp h
    refine ⟨fun hs hh => hrefused (State.setCursor_of_moving (s := s.taken tag _) hs hh), fun hs =>
      ⟨fun hbusy => hrefused (State.setCursor_of_busy (s := s.taken tag _) hs hbusy), fun hc hsearch =>
        ⟨fun hactive => hrefused (State.setCursor_of_noTable (s := s.taken tag _) hs hc hsearch hactive),
          fun table hactive => ?_⟩⟩⟩
    have hplace {i : Nat} (hi : (s.taken tag (.setCursor c)).badPlace table c = some i) : refused .badField [byteOf i] :=
      hrefused (State.setCursor_of_badPlace (s := s.taken tag _) hs hc hsearch hactive hi)
    exact ⟨fun h => hplace (State.badPlace_of_step h), fun t ht => ⟨fun h => hplace (State.badPlace_of_rep ht h),
      fun h hcourse => hplace (State.badPlace_of_course ht h hcourse)⟩⟩
  · have hgood : firstBad (s.taken tag (.openStream first bars)).badStreamBar 2 [] bars = none :=
      (firstBad_eq_none _ bars 2 []).mpr fun i b hb => by
        obtain ⟨hb1, hb64, hassigned⟩ := hbars b (List.mem_of_getElem? hb)
        exact Bool.eq_false_iff.mpr fun h => (State.badStreamBar_iff _ _ b).mp h
          ⟨hb1, hb64, not_mem_take_of_nodup hnodup hb, hassigned⟩
    exact exec_accepted (r := .openStream first bars) rfl hq hp
      (State.openStream_of_good (s := s.taken tag _) hs hc h1 h64 hsound hgood) (State.dueStep_of_noCurrent hs hc rfl)
  · intro refused good
    have hrefused {a : Answer} (h : (s.taken tag (.openStream first bars)).openStream first bars =
        (s.taken tag (.openStream first bars), a)) : refused a.result a.payload :=
      exec_refused (r := .openStream first bars) rfl hq hp h
    refine ⟨fun hs hh => hrefused (State.openStream_of_moving (s := s.taken tag _) hs hh),
      fun hs hc => hrefused (State.openStream_of_busy (s := s.taken tag _) hs hc), fun hs hc =>
      ⟨fun hcount => hrefused (State.openStream_of_badCount (s := s.taken tag _) hs hc hcount),
        fun i b h1 h64 hb hbad hbefore => ?_⟩⟩
    have hi : firstBad (s.taken tag (.openStream first bars)).badStreamBar 2 [] bars = some (2 + i) :=
      (firstBad_eq_some _ bars 2 [] _).mpr ⟨i, b, rfl, hb, (State.badStreamBar_iff _ _ b).mpr hbad,
        fun j hj x hx => Bool.eq_false_iff.mpr fun h => (State.badStreamBar_iff _ _ x).mp h (hbefore j x hj hx)⟩
    exact hrefused (State.openStream_of_badBar (s := s.taken tag _) hs hc h1 h64 hi)

end Sys2Proof.Machine
end

section
/-! PROOF. The feed (04, R58 to R62): one feed said once, and the feeding that goes on while it may. -/

namespace Sys2Proof.Machine

/-! ### An append and the player (05, R74) -/

section

variable (s : State) (tag : Tag) (origin : Origin) (cap : Option Nat) (laps : List RawLap)

/-- An append in empty lists (R74). -/
theorem State.append_of_none (h : s.lists.last = none) : s.append tag origin cap laps =
    (s.updLists fun l => { l.clearMarks with current := some (s.newRecord tag origin cap laps) }).replan := by
  unfold State.append
  simp only [h]
  rfl

/-- An append behind the record that stands last (R74, R102). -/
theorem State.append_of_some {c : CourseRecord} (h : s.lists.last = some c) : s.append tag origin cap laps =
    ((s.giveCeiling c (s.newRecord tag origin cap laps)).updLists fun l =>
      { l with queue := l.queue ++ [s.newRecord tag origin cap laps] }).replan := by
  unfold State.append
  simp only [h]
  rfl

/-- What an append changes, with all else named by no field of its own. -/
theorem State.append_frame :
    s.append tag origin cap laps = { s with
      lists := (s.append tag origin cap laps).lists, planner := (s.append tag origin cap laps).planner
      run := (s.append tag origin cap laps).run, permitLine := (s.append tag origin cap laps).permitLine
      link := (s.append tag origin cap laps).link } := by
  obtain ⟨h1, h2, h3, h4, h5, h6, h7, h8, h9, h10, h11, h12⟩ := s.append_keeps tag origin cap laps
  simp only [← h1, ← h2, ← h3, ← h4, ← h5, ← h6, ← h7, ← h8, ← h9, ← h10, ← h11, ← h12]

variable (f : Player → Player)

theorem State.publish_updPlayer : (s.updPlayer f).publish = s.publish.updPlayer f := by
  unfold State.publish
  by_cases h : s.permitToPublish = s.run.published
  · rw [if_pos h]
    exact if_pos h
  · rw [if_neg h]
    exact if_neg h

theorem State.replan_updPlayer : (s.updPlayer f).replan = s.replan.updPlayer f :=
  State.publish_updPlayer { s with planner := planOf s.machine s.lists } f

theorem State.reportInfeasible_updPlayer (r n : CourseRecord) (c : Ceiling) :
    (s.updPlayer f).reportInfeasible r n c = (s.reportInfeasible r n c).updPlayer f := by
  unfold State.reportInfeasible
  split
  · split
    · split <;> rfl
    · rfl
  · rfl

/-- An append does not look at the player. -/
theorem State.append_updPlayer :
    (s.updPlayer f).append tag origin cap laps = (s.append tag origin cap laps).updPlayer f := by
  cases h : s.lists.last with
  | none =>
    rw [s.append_of_none tag origin cap laps h, State.append_of_none _ _ _ _ _ (by exact h), ← State.replan_updPlayer]
    rfl
  | some c =>
    rw [s.append_of_some tag origin cap laps h, State.append_of_some _ _ _ _ _ (by exact h), ← State.replan_updPlayer]
    have hgive (n : CourseRecord) : (s.updPlayer f).giveCeiling c n = (s.giveCeiling c n).updPlayer f :=
      State.reportInfeasible_updPlayer (s.updLists fun l => l.modifyLastRecord fun r => r.withCeiling (s.ceilingOf c n)) f c n
        (s.ceilingOf c n)
    rw [hgive]
    rfl

end

/-! ### One feed (04, R58 to R62) -/

/-- The part once the course that the cursor names has been fed, before any switch (R58, R61). -/
def State.fedCourse (s : State) (table : List SeqStep) (step : SeqStep) : State :=
  let p := s.player
  let a := advance table step (s.block step.block).courses p.cursor
  (s.append p.fed (.player p.cursor p.pass) none
    (s.assignedBars.map (rawLapOf (s.block step.block) p.cursor.course))).updPlayer fun p =>
      { p with cursor := a.place, pass := if a.passEnd then p.pass + 1 else p.pass, fed := p.fed + 1 }

section

variable {s : State} {table : List SeqStep} {step : SeqStep}

/-- A feed that reaches no boundary of a recorded switch. -/
theorem State.feedCourse_waits
    (h : switchDue s.player.recorded (advance table step (s.block step.block).courses s.player.cursor) = false) :
    s.feedCourse table step = s.fedCourse table step := by
  cases hr : s.player.recorded with
  | none =>
    simp only [State.feedCourse, hr]
    rfl
  | some mode =>
    rw [hr] at h
    simp only [State.feedCourse, hr, h, Bool.false_eq_true, if_false]
    rfl

/-- A feed that reaches the boundary of the recorded switch (R59). -/
theorem State.feedCourse_switches {mode : SwitchMode} (hr : s.player.recorded = some mode)
    (h : switchDue (some mode) (advance table step (s.block step.block).courses s.player.cursor) = true) :
    s.feedCourse table step = (s.fedCourse table step).takeSwitch mode := by
  simp only [State.feedCourse, hr, h, if_true]
  rfl

theorem State.feedCourse_cases :
    s.feedCourse table step = s.fedCourse table step ∨
      ∃ mode, s.feedCourse table step = (s.fedCourse table step).takeSwitch mode := by
  cases hdue : switchDue s.player.recorded (advance table step (s.block step.block).courses s.player.cursor) with
  | false => exact .inl (State.feedCourse_waits hdue)
  | true =>
    cases hr : s.player.recorded with
    | none => rw [hr] at hdue; cases hdue
    | some mode => exact .inr ⟨mode, State.feedCourse_switches hr (hr ▸ hdue)⟩

variable (ha : s.player.active = some table) (ht : table[s.player.cursor.step]? = some step)
include ha ht

theorem State.feedOne_stops {bar position : Nat}
    (h : s.feedFault (s.block step.block) s.player.cursor.course = some (bar, position)) :
    s.feedOne = s.stopFeed step bar position := by
  simp only [State.feedOne, ha, ht, h]

theorem State.feedOne_feeds (h : s.feedFault (s.block step.block) s.player.cursor.course = none) :
    s.feedOne = s.feedCourse table step := by
  simp only [State.feedOne, ha, ht, h]

end

/-! ### The player feeds while it may (04, R60) -/

/-- What keeps the player feeding until it may not: empty lists have no records behind, the cursor names a step of the
ACTIVE table, and the PENDING table has a step (04, R51, R58; 05, R73). -/
structure State.Playable (s : State) : Prop where
  lists : s.lists.current = none → s.lists.after = []
  cursor : ∀ table, s.player.active = some table → s.player.cursor.step < table.length
  pending : ∀ table, s.player.pending = some table → table ≠ []

/-- How many more courses the lists take: the current record's place and those of the queue (05, R94). -/
def State.feedRoom (s : State) : Nat :=
  if s.lists.current.isSome then Config.queueRoom - s.lists.queue.length else Config.queueRoom + 1

/-- A player that may feed finds a place. -/
theorem State.feedRoom_pos {s : State} (h : s.canFeed = true) : 0 < s.feedRoom := by
  simp only [State.canFeed, Bool.and_eq_true, Bool.or_eq_true, decide_eq_true_eq] at h
  obtain ⟨⟨⟨-, hroom⟩, -⟩, -⟩ := h
  unfold State.feedRoom
  cases hc : s.lists.current with
  | none => simp
  | some c =>
    rw [hc] at hroom
    simp only [Option.isNone_some, Bool.false_eq_true, false_or] at hroom
    simp only [Option.isSome_some, if_true]
    omega

theorem advance_step_lt {table : List SeqStep} {step : SeqStep} {courses : Nat} {c : FeedCursor}
    (h : c.step < table.length) : (advance table step courses c).place.step < table.length := by
  unfold advance
  split_ifs
  · exact h
  · exact h
  · assumption
  · exact Nat.zero_lt_of_lt h

/-- Changing the record that stands last leaves every list its length. -/
theorem Lists.modifyLastRecord_keeps (l : Lists) (f : CourseRecord → CourseRecord) :
    (l.modifyLastRecord f).current.isSome = l.current.isSome ∧ (l.modifyLastRecord f).queue.length = l.queue.length := by
  unfold Lists.modifyLastRecord
  split
  · exact ⟨rfl, modifyLast_length f _⟩
  · split
    · exact ⟨rfl, rfl⟩
    · exact ⟨Option.isSome_map .., rfl⟩

/-- An append takes one place of the lists: the current record's when they are empty, and one of the queue's otherwise. -/
theorem State.append_places {s : State} (h : s.lists.current = none → s.lists.after = []) (tag : Tag) (origin : Origin)
    (cap : Option Nat) (laps : List RawLap) :
    (s.append tag origin cap laps).lists.current.isSome = true ∧
    (s.append tag origin cap laps).lists.queue.length =
      s.lists.queue.length + if s.lists.current.isSome then 1 else 0 := by
  cases hlast : s.lists.last with
  | none =>
    have hcurrent : s.lists.current = none := by
      unfold Lists.last at hlast
      split at hlast
      · cases hlast
      · exact hlast
    simp [s.append_of_none tag origin cap laps hlast, hcurrent, Lists.clearMarks]
  | some c =>
    have hcurrent : s.lists.current.isSome = true := by
      rw [Option.isSome_iff_ne_none]
      intro hnone
      simp [Lists.last, h hnone, hnone] at hlast
    obtain ⟨hkept, hlength⟩ := s.lists.modifyLastRecord_keeps fun r =>
      r.withCeiling (s.ceilingOf c (s.newRecord tag origin cap laps))
    simp [s.append_of_some tag origin cap laps hlast, State.giveCeiling, hkept, hlength, hcurrent]

section

variable {s : State} (h : s.Playable)
include h

theorem State.Playable.stopFeed (step : SeqStep) (bar position : Nat) : (s.stopFeed step bar position).Playable :=
  ⟨h.lists, h.cursor, h.pending⟩

theorem State.Playable.takeSwitch (mode : SwitchMode) : (s.takeSwitch mode).Playable := by
  cases hp : s.player.pending with
  | none => rwa [State.takeSwitch_of_none hp]
  | some table =>
    rw [State.takeSwitch_eq hp]
    refine ⟨by simpa using h.lists, fun _ ht => ?_, fun _ ht => by cases ht⟩
    cases ht
    exact List.length_pos_of_ne_nil (h.pending table hp)

theorem State.Playable.fedCourse {table : List SeqStep} (ha : s.player.active = some table) (step : SeqStep) :
    (s.fedCourse table step).Playable ∧ (s.fedCourse table step).lists.current.isSome = true ∧
    (s.fedCourse table step).lists.queue.length = s.lists.queue.length + if s.lists.current.isSome then 1 else 0 := by
  have hplaces := State.append_places h.lists s.player.fed (.player s.player.cursor s.player.pass) none
    (s.assignedBars.map (rawLapOf (s.block step.block) s.player.cursor.course))
  refine ⟨⟨fun hnone => ?_, fun t ht => ?_, by simpa [State.fedCourse] using h.pending⟩, hplaces⟩
  · have hsome := hplaces.1
    change (State.append _ _ _ _ _).lists.current = none at hnone
    rw [hnone] at hsome
    cases hsome
  · obtain rfl : table = t := by simpa [State.fedCourse, ha] using ht
    exact advance_step_lt (h.cursor table ha)

/-- A feed that does not stop takes one place of the lists. -/
theorem State.Playable.feedOne (hc : s.canFeed = true) :
    s.feedOne.Playable ∧ (s.feedOne.canFeed = true → s.feedOne.feedRoom < s.feedRoom) := by
  simp only [State.canFeed, Bool.and_eq_true, Bool.or_eq_true, Option.isSome_iff_exists, decide_eq_true_eq] at hc
  obtain ⟨⟨⟨⟨⟨-, -⟩, table, ha⟩, hroom⟩, -⟩, -⟩ := hc
  obtain ⟨step, ht⟩ : ∃ step, table[s.player.cursor.step]? = some step :=
    ⟨_, List.getElem?_eq_getElem (h.cursor table ha)⟩
  cases hfault : s.feedFault (s.block step.block) s.player.cursor.course with
  | some x =>
    rw [State.feedOne_stops ha ht hfault]
    refine ⟨h.stopFeed _ _ _, fun hstopped => ?_⟩
    simp [State.canFeed, State.stopFeed] at hstopped
  | none =>
    rw [State.feedOne_feeds ha ht hfault]
    obtain ⟨hplayable, hcurrent, hqueue⟩ := h.fedCourse ha step
    have hless : (s.fedCourse table step).feedRoom < s.feedRoom := by
      rw [State.feedRoom, if_pos hcurrent, hqueue, State.feedRoom]
      cases hnow : s.lists.current with
      | none => simp only [Option.isSome_none, Bool.false_eq_true, if_false]; omega
      | some c =>
        have hfree : s.lists.queue.length < Config.queueRoom := by simpa [hnow] using hroom
        simp only [Option.isSome_some, if_true]
        omega
    rcases s.feedCourse_cases with hfed | ⟨mode, hfed⟩ <;> rw [hfed]
    · exact ⟨hplayable, fun _ => hless⟩
    · refine ⟨hplayable.takeSwitch mode, fun _ => ?_⟩
      simpa [State.feedRoom] using hless

/-- With as many feeds as there are places, the player feeds until it may not. -/
theorem State.Playable.feedUpTo (n : Nat) (hn : s.canFeed = true → s.feedRoom ≤ n) :
    (State.feedUpTo n s).canFeed = false := by
  induction n generalizing s with
  | zero =>
    exact Bool.eq_false_iff.mpr fun hc => Nat.not_lt.mpr (hn hc) (State.feedRoom_pos hc)
  | succ n ih =>
    unfold State.feedUpTo
    split
    · rename_i hc
      obtain ⟨hplayable, hless⟩ := h.feedOne hc
      exact ih hplayable fun hnext => Nat.le_of_lt_succ ((hless hnext).trans_le (hn hc))
    · exact Bool.eq_false_iff.mpr ‹_›

end

/-- Settles O29: each feed that does not stop takes one of the 33 places, so that the player runs out of room at the latest. -/
theorem feedingGoesOnWhileItMay : Obligations.FeedingGoesOnWhileItMay := by
  refine ⟨fun s ⟨_, _, hempty⟩ hcursor hpending => ?_, fun s hstop => State.feed_of_canFeed ?_⟩
  · have hplayable : s.Playable := ⟨fun hc => by simp [Lists.after, hempty hc], hcursor, hpending⟩
    refine hplayable.feedUpTo _ fun _ => ?_
    unfold State.feedRoom
    split <;> omega
  · rcases hstop with h | h | h | h | h | ⟨hcurrent, hqueue⟩
    · simp [State.canFeed, h]
    · exact State.canFeed_of_stream h
    · simp [State.canFeed, h]
    · simp [State.canFeed, h]
    · simp [State.canFeed, h]
    · refine Bool.eq_false_iff.mpr fun hc => ?_
      have hpos := State.feedRoom_pos hc
      rw [State.feedRoom, if_pos hcurrent, Config.queueRoom] at hpos
      omega

end Sys2Proof.Machine
end

section
/-! PROOF. One feed (04, R58 to R62): the cells beyond their travel, the advance, the fed record with its laps, and the switch at its
boundary. -/

namespace Sys2Proof.Machine

/-! ### Cells beyond their bar's travel (04, R62) -/

/-- A cell stays within a travel when it is a rest, or neither position exceeds the travel (R62). -/
theorem overTravel_eq_none {travel : Nat} {c : Cell} :
    overTravel travel c = none ↔ ¬(¬(c.front = 255 ∧ c.back = 255) ∧ (travel < c.front ∨ travel < c.back)) := by
  unfold overTravel
  split_ifs with hrest hfront hback <;> simp_all [isRest]

/-- A cell beyond a travel is reported with its front position where that exceeds it, and its back position otherwise (R62). -/
theorem overTravel_eq_some {travel : Nat} {c : Cell}
    (h : ¬(c.front = 255 ∧ c.back = 255) ∧ (travel < c.front ∨ travel < c.back)) :
    overTravel travel c = some (if travel < c.front then c.front else c.back) := by
  unfold overTravel
  split_ifs with hrest hfront hback <;> simp_all [isRest]

theorem State.assignedBars_sorted (s : State) : s.assignedBars.Pairwise (· < ·) :=
  List.Pairwise.filter _ List.pairwise_lt_range'

/-- The lowest of the bars that fail is found. -/
theorem findSome?_eq_of_lowest {α : Type} {f : Nat → Option α} {l : List Nat} (hl : l.Pairwise (· < ·)) {b : Nat} {x : α}
    (hb : b ∈ l) (hx : f b = some x) (hlowest : ∀ y ∈ l, y < b → f y = none) : l.findSome? f = some x := by
  induction l with
  | nil => cases hb
  | cons y ys ih =>
    obtain ⟨hy, hys⟩ := List.pairwise_cons.mp hl
    rcases List.mem_cons.mp hb with rfl | hmem
    · rw [List.findSome?_cons, hx]
    · rw [List.findSome?_cons, hlowest y (by simp) (hy b hmem)]
      exact ih hys hmem fun z hz => hlowest z (by simp [hz])

/-- A bar whose cell stays within its travel does not stop the feed. -/
theorem State.feedFault_at_eq_none {s : State} {b : Block} {course bar : Nat}
    (h : ∀ c, cellOf b course bar = some c →
      ¬(¬(c.front = 255 ∧ c.back = 255) ∧ ((s.profile bar).travel < c.front ∨ (s.profile bar).travel < c.back))) :
    ((cellOf b course bar).bind fun c => (overTravel (s.profile bar).travel c).map fun p => (bar, p)) = none := by
  cases hc : cellOf b course bar with
  | none => rfl
  | some c => rw [Option.bind_some, overTravel_eq_none.mpr (h c hc), Option.map_none]

/-! ### The advance of the cursor (04, R58, R59) -/

section

variable {table : List SeqStep} {step : SeqStep} {courses : Nat} {c : FeedCursor}

theorem advance_within_repeat (h : c.course + 1 < courses) :
    advance table step courses c = ⟨⟨c.step, c.rep, c.course + 1⟩, false, false⟩ :=
  if_pos h

variable (h : courses ≤ c.course + 1)
include h

theorem advance_within_step (hrep : c.rep + 1 < step.reps) :
    advance table step courses c = ⟨⟨c.step, c.rep + 1, 0⟩, false, false⟩ := by
  rw [advance, if_neg (Nat.not_lt.mpr h), if_pos hrep]

variable (hrep : step.reps ≤ c.rep + 1)
include hrep

theorem advance_to_next_step (hstep : c.step + 1 < table.length) :
    advance table step courses c = ⟨⟨c.step + 1, 0, 0⟩, true, false⟩ := by
  rw [advance, if_neg (Nat.not_lt.mpr h), if_neg (Nat.not_lt.mpr hrep), if_pos hstep]

theorem advance_to_next_pass (hstep : table.length ≤ c.step + 1) :
    advance table step courses c = ⟨⟨0, 0, 0⟩, true, true⟩ := by
  rw [advance, if_neg (Nat.not_lt.mpr h), if_neg (Nat.not_lt.mpr hrep), if_neg (Nat.not_lt.mpr hstep)]

end

theorem advance_stepEnd_iff (table : List SeqStep) (step : SeqStep) (courses : Nat) (c : FeedCursor) :
    (advance table step courses c).stepEnd = true ↔ courses ≤ c.course + 1 ∧ step.reps ≤ c.rep + 1 := by
  unfold advance
  split_ifs <;> simp only [false_iff, true_iff] <;> omega

theorem advance_passEnd_iff (table : List SeqStep) (step : SeqStep) (courses : Nat) (c : FeedCursor) :
    (advance table step courses c).passEnd = true ↔
      (courses ≤ c.course + 1 ∧ step.reps ≤ c.rep + 1) ∧ table.length ≤ c.step + 1 := by
  unfold advance
  split_ifs <;> simp only [false_iff, true_iff] <;> omega

theorem switchDue_iff (mode : SwitchMode) (a : Advance) : switchDue (some mode) a = true ↔
    (mode = .atStepEnd ∧ a.stepEnd = true) ∨ (mode = .atPassEnd ∧ a.passEnd = true) := by
  cases mode <;> simp [switchDue]

/-! ### The laps of a fed course (04, R61; 05, R72) -/

section

variable (s : State) (b : Block) (course bar : Nat)

@[simp] theorem State.resolve_rawLapOf_bar : (s.resolve (rawLapOf b course bar)).bar = bar := by
  have hbar (x : RawLap) : (s.resolve x).bar = x.bar := by unfold State.resolve; split <;> rfl
  rw [hbar]
  unfold rawLapOf
  split
  · split <;> rfl
  · rfl

variable {s b course bar}

theorem State.resolve_rawLapOf_of_pair {c : Cell} (hc : cellOf b course bar = some c)
    (h : ¬(c.front = 255 ∧ c.back = 255)) : s.resolve (rawLapOf b course bar) = ⟨bar, c.front, c.back⟩ := by
  have hrest : isRest c = false := by simpa [isRest] using h
  simp [rawLapOf, hc, hrest, State.resolve]

theorem State.resolve_rawLapOf_of_rest
    (h : cellOf b course bar = none ∨ ∃ c, cellOf b course bar = some c ∧ c.front = 255 ∧ c.back = 255) :
    s.resolve (rawLapOf b course bar) = ⟨bar, s.restIndex bar, s.restIndex bar⟩ := by
  rcases h with h | ⟨c, hc, hfront, hback⟩
  · simp [rawLapOf, h, State.resolve]
  · simp [rawLapOf, hc, isRest, hfront, hback, State.resolve]

end

/-! ### The part after a feed -/

section

variable (s : State) (table : List SeqStep) (step : SeqStep)

theorem State.fedCourse_player :
    let a := advance table step (s.block step.block).courses s.player.cursor
    (s.fedCourse table step).player = { s.player with
      cursor := a.place, pass := if a.passEnd then s.player.pass + 1 else s.player.pass, fed := s.player.fed + 1 } := by
  simp [State.fedCourse]

theorem State.fedCourse_frame :
    s.fedCourse table step = { s with
      player := (s.fedCourse table step).player, lists := (s.fedCourse table step).lists
      planner := (s.fedCourse table step).planner, run := (s.fedCourse table step).run
      permitLine := (s.fedCourse table step).permitLine, link := (s.fedCourse table step).link } := by
  unfold State.fedCourse
  dsimp only
  rw [State.append_frame]
  rfl

/-- A feed before any switch does not look at the recorded one. -/
theorem State.fedCourse_withRecorded (recorded : Option SwitchMode) :
    State.fedCourse { s with player := { s.player with recorded := recorded } } table step =
      { s.fedCourse table step with player := { (s.fedCourse table step).player with recorded := recorded } } := by
  have happend := State.append_updPlayer s s.player.fed (.player s.player.cursor s.player.pass) none
    (s.assignedBars.map (rawLapOf (s.block step.block) s.player.cursor.course)) fun p => { p with recorded := recorded }
  exact congrArg (State.updPlayer · fun p => { p with 
      cursor := (advance table step (s.block step.block).courses s.player.cursor).place
      pass := if (advance table step (s.block step.block).courses s.player.cursor).passEnd then p.pass + 1 else p.pass
      fed := p.fed + 1 }) happend

/-- The record of the course that the cursor names (05, R71). -/
def State.fedRecord : CourseRecord :=
  s.newRecord s.player.fed (.player s.player.cursor s.player.pass) none
    (s.assignedBars.map (rawLapOf (s.block step.block) s.player.cursor.course))

theorem State.fedRecord_laps : (s.fedRecord step).laps =
    s.assignedBars.map fun b => s.resolve (rawLapOf (s.block step.block) s.player.cursor.course b) :=
  List.map_map

/-- The record has a lap for each assigned bar, in rising order. -/
theorem State.fedRecord_bars : (s.fedRecord step).laps.map BarLap.bar = s.assignedBars := by
  rw [State.fedRecord_laps, List.map_map]
  exact (List.map_congr_left fun b _ => State.resolve_rawLapOf_bar ..).trans (List.map_id _)

theorem State.fedRecord_lap {lap : BarLap} (h : lap ∈ (s.fedRecord step).laps) :
    lap = s.resolve (rawLapOf (s.block step.block) s.player.cursor.course lap.bar) := by
  rw [State.fedRecord_laps] at h
  obtain ⟨b, -, rfl⟩ := List.mem_map.mp h
  rw [State.resolve_rawLapOf_bar]

theorem State.fedRecord_lap_of_pair {lap : BarLap} (h : lap ∈ (s.fedRecord step).laps) {c : Cell}
    (hc : cellOf (s.block step.block) s.player.cursor.course lap.bar = some c) (hpair : ¬(c.front = 255 ∧ c.back = 255)) :
    lap.front = c.front ∧ lap.back = c.back := by
  have hlap := (s.fedRecord_lap step h).trans (State.resolve_rawLapOf_of_pair hc hpair)
  exact ⟨congrArg BarLap.front hlap, congrArg BarLap.back hlap⟩

theorem State.fedRecord_lap_of_rest {lap : BarLap} (h : lap ∈ (s.fedRecord step).laps)
    (hrest : cellOf (s.block step.block) s.player.cursor.course lap.bar = none ∨
      ∃ c, cellOf (s.block step.block) s.player.cursor.course lap.bar = some c ∧ c.front = 255 ∧ c.back = 255) :
    lap.front = s.restIndex lap.bar ∧ lap.back = s.restIndex lap.bar := by
  have hlap := (s.fedRecord_lap step h).trans (State.resolve_rawLapOf_of_rest hrest)
  exact ⟨congrArg BarLap.front hlap, congrArg BarLap.back hlap⟩

/-- A fed course joins the lists as any record does (05, R74). -/
theorem State.fedCourse_appends :
    (s.lists.forward ≠ [] → s.Joined (s.fedCourse table step) (s.fedRecord step)) ∧
    (s.lists.forward = [] → s.BecomesCurrent (s.fedCourse table step) (s.fedRecord step)) ∧
    (s.fedCourse table step).lists.expected = s.lists.expected := by
  refine ⟨fun h => (State.append_joins s _ _ _ _ h).1, fun h => (State.append_becomesCurrent s _ _ _ _ h).1, ?_⟩
  by_cases h : s.lists.forward = []
  · exact (State.append_becomesCurrent s _ _ _ _ h).2
  · exact (State.append_joins s _ _ _ _ h).2

end

/-- Settles O30: the lowest bar beyond its travel stops the feed; otherwise the course is appended and the cursor goes on, and a
switch is taken where its boundary has been reached. -/
theorem fedCourseBecomesARecord : Obligations.FedCourseBecomesARecord := by
  refine ⟨fun s b => ?_, fun s table step ha ht => ?_⟩
  · rw [Lists.getLast?_forward, State.restIndex]
    cases s.lists.last <;> rfl
  intro p block cell rest beyond fits stepEnd passEnd t
  obtain ⟨a, hadvance⟩ : ∃ a, a = advance table step block.courses p.cursor := ⟨_, rfl⟩
  have hstepEnd : a.stepEnd = true ↔ stepEnd := hadvance ▸ advance_stepEnd_iff table step block.courses p.cursor
  have hpassEnd : a.passEnd = true ↔ passEnd := hadvance ▸ advance_passEnd_iff table step block.courses p.cursor
  have hplayer : (s.fedCourse table step).player =
      { p with cursor := a.place, pass := if a.passEnd then p.pass + 1 else p.pass, fed := p.fed + 1 } :=
    hadvance ▸ s.fedCourse_player table step
  have hnoFault (hfits : fits) : s.feedFault block p.cursor.course = none :=
    List.findSome?_eq_none_iff.mpr fun b hb => State.feedFault_at_eq_none (hfits b hb)
  refine ⟨fun b c hb hc hbeyond hlowest => ?_, fun hfits hrecorded => ?_,
    fun mode new hfits hrecorded hpending hsized => ?_⟩
  · refine State.feedOne_stops ha ht (findSome?_eq_of_lowest s.assignedBars_sorted hb ?_
      fun x hx hlt => State.feedFault_at_eq_none (hlowest x hx hlt))
    rw [show cellOf block p.cursor.course b = some c from hc, Option.bind_some, overTravel_eq_some hbeyond]
    rfl
  · have hfed : t = s.fedCourse table step :=
      (State.feedOne_feeds ha ht (hnoFault hfits)).trans (State.feedCourse_waits (by rw [hrecorded]; rfl))
    obtain ⟨hjoins, hbecomes, hexpected⟩ := s.fedCourse_appends table step
    rw [hfed]
    refine ⟨⟨s.fedRecord step, rfl, rfl, rfl, rfl, rfl, rfl, s.fedRecord_bars step, fun lap hlap =>
      ⟨fun c hc hpair => s.fedRecord_lap_of_pair step hlap hc hpair, fun hrest => s.fedRecord_lap_of_rest step hlap hrest⟩,
      hjoins, hbecomes, hexpected⟩, ⟨a.place, ?_, ?_, ?_, ?_, ?_, ?_⟩, ?_⟩
    · rw [hplayer]
    · exact fun h => congrArg Advance.place (hadvance.trans (advance_within_repeat h))
    · exact fun h hrep => congrArg Advance.place (hadvance.trans (advance_within_step h hrep))
    · exact fun ⟨h, hrep⟩ hstep => congrArg Advance.place (hadvance.trans (advance_to_next_step h hrep hstep))
    · rintro ⟨⟨h, hrep⟩, hstep⟩
      refine ⟨congrArg Advance.place (hadvance.trans (advance_to_next_pass h hrep hstep)), ?_⟩
      rw [hplayer, if_pos (hpassEnd.mpr ⟨⟨h, hrep⟩, hstep⟩)]
    · intro hend
      rw [hplayer, if_neg (mt hpassEnd.mp hend)]
    · rw [s.fedCourse_frame]
  · intro fed due
    have hwas : fed = { s.fedCourse table step with
        player := { (s.fedCourse table step).player with recorded := none } } := by
      refine (State.feedOne_feeds (s := { s with player := { p with recorded := none } }) ha ht (hnoFault hfits)).trans ?_
      exact (State.feedCourse_waits rfl).trans (s.fedCourse_withRecorded table step none)
    have hdue : switchDue (some mode) a = true ↔ due := by
      rw [switchDue_iff, hstepEnd, hpassEnd]
    refine ⟨fun hwaits => ?_, fun hnow => ?_⟩
    · have hfed : t = s.fedCourse table step := (State.feedOne_feeds ha ht (hnoFault hfits)).trans
        (State.feedCourse_waits (by rw [hrecorded, ← hadvance]; exact Bool.eq_false_iff.mpr (mt hdue.mp hwaits)))
      have hkept : (s.fedCourse table step).player.recorded = some mode := by rw [hplayer]; exact hrecorded
      rw [hfed, hwas, ← hkept]
    · have hfed : t = (s.fedCourse table step).takeSwitch mode := (State.feedOne_feeds ha ht (hnoFault hfits)).trans
        (State.feedCourse_switches hrecorded (hadvance ▸ hdue.mpr hnow))
      have hactive : (s.fedCourse table step).player.active = some table := by rw [hplayer]; exact ha
      have hnew : (s.fedCourse table step).player.pending = some new := by rw [hplayer]; exact hpending
      rw [State.takeSwitch_eq hnew, hactive] at hfed
      have htracker : (s.fedCourse table step).tracker = s.tracker := by rw [s.fedCourse_frame]
      refine ⟨?_, fun id hid => ?_⟩
      · rw [hfed, hwas, ← htracker]
        cases mode <;> rfl
      · have hsame : (s.fedCourse table step).store = s.store := by rw [s.fedCourse_frame]
        rw [hfed, hwas]
        exact State.block_unpinOld (s := s.fedCourse table step) (by rw [hsame, hsized]; omega) (some table)

end Sys2Proof.Machine
end

section
/-! PROOF. LOCATE and LOCATE_DONE (04, R66 to R69): the judging of the targets, the courses of a table in feed order, and the search
through them. -/

namespace Sys2Proof.Machine

/-! ### The targets of LOCATE (04, R66) -/

/-- The bar of a target may stand behind the bars of the targets before it. -/
def GoodTargetBar (seen : List Nat) (t : LocateTarget) : Prop := 1 ≤ t.bar ∧ t.bar ≤ 64 ∧ t.bar ∉ seen

/-- The front position of a target is an index, or don't-care. -/
def GoodTargetFront (t : LocateTarget) : Prop := t.front ≤ 63 ∨ t.front = 255

/-- The model's check of a bar fails exactly on a bad one. -/
theorem badTargetBar_iff (seen : List Nat) (t : LocateTarget) :
    (decide (t.bar < 1) || decide (64 < t.bar) || seen.contains t.bar) = true ↔ ¬GoodTargetBar seen t := by
  rw [← not_iff_not]
  simp [GoodTargetBar, and_assoc, Nat.one_le_iff_ne_zero]

theorem badTargetFront_iff (t : LocateTarget) :
    (decide (64 ≤ t.front) && decide (t.front ≠ 255)) = true ↔ ¬GoodTargetFront t := by
  simp only [GoodTargetFront, Bool.and_eq_true, decide_eq_true_eq]
  omega

section

variable {seen : List Nat} {t : LocateTarget} (n : Nat) (rest : List LocateTarget)

theorem badTargetField_of_badBar (h : ¬GoodTargetBar seen t) : badTargetField n seen (t :: rest) = some n :=
  if_pos ((badTargetBar_iff seen t).mpr h)

theorem badTargetField_of_badFront (h : GoodTargetBar seen t) (hf : ¬GoodTargetFront t) :
    badTargetField n seen (t :: rest) = some (n + 1) := by
  rw [badTargetField, if_neg (mt (badTargetBar_iff seen t).mp (not_not.mpr h)),
    if_pos ((badTargetFront_iff t).mpr hf)]

theorem badTargetField_of_good (h : GoodTargetBar seen t) (hf : GoodTargetFront t) :
    badTargetField n seen (t :: rest) = badTargetField (n + 2) (seen ++ [t.bar]) rest := by
  rw [badTargetField, if_neg (mt (badTargetBar_iff seen t).mp (not_not.mpr h)),
    if_neg (mt (badTargetFront_iff t).mp (not_not.mpr hf))]

end

/-- Good targets are passed over. -/
theorem badTargetField_append (rest : List LocateTarget) : ∀ (before : List LocateTarget) (n : Nat) (seen : List Nat),
    (∀ j x, before[j]? = some x → GoodTargetBar (seen ++ (before.take j).map LocateTarget.bar) x ∧ GoodTargetFront x) →
    badTargetField n seen (before ++ rest) =
      badTargetField (n + 2 * before.length) (seen ++ before.map LocateTarget.bar) rest
  | [], n, seen, _ => by simp
  | t :: before, n, seen, h => by
    obtain ⟨hbar, hfront⟩ := h 0 t rfl
    have hrest : ∀ j x, before[j]? = some x →
        GoodTargetBar ((seen ++ [t.bar]) ++ (before.take j).map LocateTarget.bar) x ∧ GoodTargetFront x := fun j x hx => by
      simpa using h (j + 1) x hx
    rw [List.cons_append, badTargetField_of_good _ _ (by simpa using hbar) hfront,
      badTargetField_append rest before _ _ hrest, List.append_assoc, List.length_cons]
    congr 1
    omega

theorem badTargetField_of_all_good {ts : List LocateTarget}
    (h : ∀ j x, ts[j]? = some x → GoodTargetBar ((ts.take j).map LocateTarget.bar) x ∧ GoodTargetFront x) :
    badTargetField 5 [] ts = none := by
  simpa [badTargetField] using badTargetField_append [] ts 5 [] h

/-- The first bad target decides, its bar before its front position. -/
theorem badTargetField_first {ts : List LocateTarget} {i : Nat} {t : LocateTarget} (ht : ts[i]? = some t)
    (h : ∀ j x, j < i → ts[j]? = some x → GoodTargetBar ((ts.take j).map LocateTarget.bar) x ∧ GoodTargetFront x) :
    (¬GoodTargetBar ((ts.take i).map LocateTarget.bar) t → badTargetField 5 [] ts = some (5 + 2 * i)) ∧
    (GoodTargetBar ((ts.take i).map LocateTarget.bar) t → ¬GoodTargetFront t →
      badTargetField 5 [] ts = some (6 + 2 * i)) := by
  obtain ⟨rest, hsplit, hlength⟩ := exists_split_of_getElem? ht
  have hbefore : ∀ j x, (ts.take i)[j]? = some x →
      GoodTargetBar ([] ++ ((ts.take i).take j).map LocateTarget.bar) x ∧ GoodTargetFront x := fun j x hx => by
    have hj : j < i := hlength ▸ (List.getElem?_eq_some_iff.mp hx).1
    rw [List.getElem?_take_of_lt hj] at hx
    rw [List.take_take, min_eq_left hj.le]
    exact h j x hj hx
  have hfirst : badTargetField 5 [] ts = badTargetField (5 + 2 * i) ((ts.take i).map LocateTarget.bar) (t :: rest) := by
    conv_lhs => rw [hsplit]
    rw [badTargetField_append _ _ _ _ hbefore, hlength, List.nil_append]
  rw [hfirst]
  refine ⟨fun hbar => badTargetField_of_badBar _ _ hbar, fun hbar hfront => ?_⟩
  rw [badTargetField_of_badFront _ _ hbar hfront]
  congr 1
  omega

/-! ### LOCATE (04, R66) -/

section

variable {s : State} {c : FeedCursor} {stride : Nat} {ts : List LocateTarget}

theorem State.locate_of_moving (hs : s.run.state ≠ .standby) (hh : s.run.state ≠ .hold) :
    s.locate c stride ts = (s, refuse .wrongState) := by
  simp [State.locate, hs, hh]

variable (hs : s.run.state = .standby ∨ s.run.state = .hold)
include hs

theorem State.locate_of_busy (h : s.player.search.isSome = true) : s.locate c stride ts = (s, refuse .busy) := by
  simp [State.locate, RunState.not_moving hs, h]

variable (hsearch : s.player.search = none)
include hsearch

theorem State.locate_of_noTable (ha : s.player.active = none) : s.locate c stride ts = (s, refuse .noSequence) := by
  simp [State.locate, RunState.not_moving hs, hsearch, ha]

variable {table : List SeqStep} (ha : s.player.active = some table)
include ha

theorem State.locate_of_badField {i : Nat} (hi : s.badLocateField table c stride ts = some i) :
    s.locate c stride ts = (s, badField i) := by
  simp [State.locate, RunState.not_moving hs, hsearch, ha, hi]

theorem State.locate_of_good (hgood : s.badLocateField table c stride ts = none) : s.locate c stride ts =
    ({ s with player := { s.player with search := some ⟨c, stride, ts, s.now⟩ } }, accept []) := by
  simp [State.locate, RunState.not_moving hs, hsearch, ha, hgood, State.updPlayer]

end

section

variable {s : State} {table : List SeqStep} {c : FeedCursor} {stride : Nat} {ts : List LocateTarget}

theorem State.badLocateField_of_badPlace {i : Nat} (hi : s.badPlace table c = some i) :
    s.badLocateField table c stride ts = some i := by
  simp only [State.badLocateField, hi]

variable (hplace : s.badPlace table c = none)
include hplace

theorem State.badLocateField_of_badStride (h : stride < 1 ∨ 8 < stride) :
    s.badLocateField table c stride ts = some 3 := by
  simp only [State.badLocateField, hplace, rangeCheck_of_bad h, if_true]

variable (h1 : 1 ≤ stride) (h8 : stride ≤ 8)
include h1 h8

theorem State.badLocateField_of_badCount (h : ts.length < 1 ∨ 16 < ts.length) :
    s.badLocateField table c stride ts = some 4 := by
  simp only [State.badLocateField, hplace, rangeCheck_of_good h1 h8, rangeCheck_of_bad h, Bool.false_eq_true, if_false,
    if_true]

theorem State.badLocateField_of_targets (hcount1 : 1 ≤ ts.length) (hcount16 : ts.length ≤ 16) :
    s.badLocateField table c stride ts = badTargetField 5 [] ts := by
  simp only [State.badLocateField, hplace, rangeCheck_of_good h1 h8, rangeCheck_of_good hcount1 hcount16,
    Bool.false_eq_true, if_false]

end

/-! ### The courses of a table in feed order (04, R58, R67) -/

/-- The courses of a step, repeat after repeat, each with the step's block. -/
def stepOrder (i block reps courses : Nat) : List (FeedCursor × Nat) :=
  (List.range reps).flatMap fun rep => (List.range courses).map fun course => (⟨i, rep, course⟩, block)

/-- The courses of one pass of the steps from number `i` on, in feed order. -/
def State.feedOrder (s : State) (i : Nat) (table : List SeqStep) : List (FeedCursor × Nat) :=
  (table.zipIdx i).flatMap fun x => stepOrder x.2 x.1.block x.1.reps (s.block x.1.block).courses

theorem stepOrder_length (i block reps courses : Nat) : (stepOrder i block reps courses).length = reps * courses := by
  simp [stepOrder, List.length_flatMap]

/-- A number within a step gives its repeat and its course by division. -/
theorem stepOrder_getElem? (i block reps courses n : Nat) : (stepOrder i block reps courses)[n]? =
    if n < reps * courses then some (⟨i, n / courses, n % courses⟩, block) else none := by
  induction reps with
  | zero => simp [stepOrder]
  | succ m ih =>
    have hlast : stepOrder i block (m + 1) courses =
        stepOrder i block m courses ++ (List.range courses).map fun course => (⟨i, m, course⟩, block) := by
      rw [stepOrder, List.range_succ, List.flatMap_append, List.flatMap_singleton]
      rfl
    rw [hlast, List.getElem?_append, stepOrder_length, ih, Nat.succ_mul]
    by_cases hbefore : n < m * courses
    · rw [if_pos hbefore, if_pos hbefore, if_pos (by omega)]
    · rw [if_neg hbefore]
      by_cases hn : n < m * courses + courses
      · have hdiv : n / courses = m := Nat.div_eq_of_lt_le (by omega) (by rw [Nat.succ_mul]; omega)
        have hmod : n % courses = n - m * courses := by rw [Nat.mod_eq_sub_div_mul, hdiv]
        rw [if_pos hn, hdiv, hmod, List.getElem?_map, List.getElem?_range (by omega)]
        rfl
      · rw [if_neg hn, List.getElem?_eq_none]
        rw [List.length_map, List.length_range]
        omega

theorem State.passLength_cons (s : State) (t : SeqStep) (table : List SeqStep) :
    s.passLength (t :: table) = t.reps * (s.block t.block).courses + s.passLength table := by
  simp [State.passLength]

/-- The place with a number is the one that stands there in feed order. -/
theorem State.placeOf_eq (s : State) (table : List SeqStep) :
    ∀ i n, s.placeOf i table n = (s.feedOrder i table)[n]? := by
  induction table with
  | nil => intro i n; rfl
  | cons t table ih =>
    intro i n
    have horder : s.feedOrder i (t :: table) =
        stepOrder i t.block t.reps (s.block t.block).courses ++ s.feedOrder (i + 1) table := by
      rw [State.feedOrder, List.zipIdx_cons, List.flatMap_cons]
      rfl
    rw [horder, List.getElem?_append, stepOrder_getElem?, stepOrder_length, State.placeOf, ih]
    split <;> rfl

/-- The number of a place that a pass has: the courses of the steps before it, and those before it in its step. -/
theorem State.placeOf_eq_some (s : State) {c : FeedCursor} {id : Nat} (table : List SeqStep) :
    ∀ i n, s.placeOf i table n = some (c, id) → i ≤ c.step ∧ n < s.passLength table ∧
      s.passLength (table.take (c.step - i)) +
        c.rep * ((table[c.step - i]?.map fun t => (s.block t.block).courses).getD 0) + c.course = n := by
  induction table with
  | nil => intro i n h; cases h
  | cons t table ih =>
    intro i n h
    rw [State.passLength_cons]
    unfold State.placeOf at h
    dsimp only at h
    split at h
    · rename_i hn
      cases h
      refine ⟨le_rfl, by omega, ?_⟩
      simp [State.passLength, Nat.div_add_mod']
    · rename_i hn
      obtain ⟨hstep, hless, hnumber⟩ := ih (i + 1) _ h
      have hnext : c.step - i = c.step - (i + 1) + 1 := by omega
      rw [hnext, List.take_succ_cons, State.passLength_cons, List.getElem?_cons_succ]
      omega

theorem State.numberOf_eq {s : State} {table : List SeqStep} {n : Nat} {c : FeedCursor} {id : Nat}
    (h : s.placeOf 0 table n = some (c, id)) : s.numberOf table c = n :=
  (s.placeOf_eq_some table 0 n h).2.2

/-! ### The search (04, R67) -/

/-- A target holds with don't-care, or with a lap pair of that front position (R67). -/
theorem targetHolds_iff (b : Block) (course : Nat) (t : LocateTarget) : targetHolds b course t = true ↔
    t.front = 255 ∨ ∃ c, cellOf b course t.bar = some c ∧ ¬(c.front = 255 ∧ c.back = 255) ∧ c.front = t.front := by
  unfold targetHolds
  cases cellOf b course t.bar <;> simp [isRest, imp_iff_not_or]

/-- The course numbered `n` exists, and a target does not hold in it. -/
def State.MissesAt (s : State) (table : List SeqStep) (q : Search) (n : Nat) : Prop :=
  ∃ c id, s.placeOf 0 table n = some (c, id) ∧ q.targets.all (targetHolds (s.block id) c.course) = false

section

variable {s : State} {table : List SeqStep} {q : Search}

/-- Courses in which a target does not hold are passed over, with the stride. -/
theorem State.searchFrom_skip (fuel n visited k : Nat) (h : ∀ j, j < k → s.MissesAt table q (n + j * q.stride)) :
    s.searchFrom table q (fuel + k) n visited = s.searchFrom table q fuel (n + k * q.stride) (visited + k) := by
  induction k generalizing n visited with
  | zero => simp
  | succ k ih =>
    obtain ⟨c, id, hplace, hmiss⟩ := h 0 (Nat.succ_pos k)
    rw [Nat.zero_mul, Nat.add_zero] at hplace
    rw [← Nat.add_assoc fuel k 1, State.searchFrom, hplace]
    simp only [hmiss, Bool.false_eq_true, if_false]
    rw [ih (n + q.stride) (visited + 1) fun j hj => by
      have hnext := h (j + 1) (by omega)
      rwa [Nat.succ_mul, Nat.add_comm _ q.stride, ← Nat.add_assoc] at hnext]
    congr 1
    · ring
    · omega

/-- No more courses are missed than a pass has. -/
theorem State.le_passLength_of_misses (hstride : 1 ≤ q.stride) {n k : Nat}
    (h : ∀ j, j < k → s.MissesAt table q (n + j * q.stride)) : k ≤ s.passLength table := by
  cases k with
  | zero => exact Nat.zero_le _
  | succ k =>
    obtain ⟨c, id, hplace, -⟩ := h k (Nat.lt_succ_self k)
    have hless := (s.placeOf_eq_some table 0 _ hplace).2.1
    have hk : k ≤ k * q.stride := Nat.le_mul_of_pos_right k hstride
    omega

/-- The search ends at the first course in which every target holds. -/
theorem State.searchFrom_finds (hstride : 1 ≤ q.stride) {n k : Nat} {c : FeedCursor} {id : Nat}
    (h : ∀ j, j < k → s.MissesAt table q (n + j * q.stride))
    (hplace : s.placeOf 0 table (n + k * q.stride) = some (c, id))
    (hall : q.targets.all (targetHolds (s.block id) c.course) = true) :
    s.searchFrom table q (s.passLength table + 1) n 0 = ⟨some (c, id), k + 1⟩ := by
  obtain ⟨fuel, hfuel⟩ : ∃ fuel, s.passLength table + 1 = fuel + 1 + k :=
    ⟨s.passLength table - k, by have := State.le_passLength_of_misses hstride h; omega⟩
  rw [hfuel, State.searchFrom_skip _ _ _ _ h, State.searchFrom, hplace]
  simp only [hall, if_true, Nat.zero_add]

/-- The search ends where the pass has no further course. -/
theorem State.searchFrom_ends (hstride : 1 ≤ q.stride) {n k : Nat}
    (h : ∀ j, j < k → s.MissesAt table q (n + j * q.stride))
    (hplace : s.placeOf 0 table (n + k * q.stride) = none) :
    s.searchFrom table q (s.passLength table + 1) n 0 = ⟨none, k⟩ := by
  obtain ⟨fuel, hfuel⟩ : ∃ fuel, s.passLength table + 1 = fuel + 1 + k :=
    ⟨s.passLength table - k, by have := State.le_passLength_of_misses hstride h; omega⟩
  rw [hfuel, State.searchFrom_skip _ _ _ _ h, State.searchFrom, hplace, Nat.zero_add]

end

/-! ### LOCATE_DONE (04, R68, R69) -/

theorem exec_locateDone {s : State} (hq : s.Quiet) : exec .locateDone s = .next s.endLocate :=
  congrArg Host.Outcome.next (State.event_of_quiet hq _)

/-- Settles O28: each refusal leaves the part as it took the request; the model's places are those of the feed order, and its fuel, a
step for each course of the pass, is never short. -/
theorem locateSearchesInItsTime : Obligations.LocateSearchesInItsTime := by
  refine ⟨fun tag c stride ts table step s hq hp hs hsearch ha hstep hrep hcourse h1 h8 hcount1 hcount16 hts hnodup => ?_,
    fun tag c stride ts s hq hp => ?_, fun s hq => ⟨fun hnone => ?_, fun q hsome => ?_⟩,
    fun s q table start block ha hstride => ?_⟩
  · have hgood : (s.taken tag (.locate c stride ts)).badLocateField table c stride ts = none := by
      rw [State.badLocateField_of_targets (s := s.taken tag _) (State.badPlace_of_good hstep hrep hcourse) h1 h8 hcount1 hcount16]
      refine badTargetField_of_all_good fun j x hx => ?_
      obtain ⟨hbar1, hbar64, hfront⟩ := hts x (List.mem_of_getElem? hx)
      refine ⟨⟨hbar1, hbar64, ?_⟩, hfront⟩
      rw [List.map_take]
      exact not_mem_take_of_nodup hnodup (by rw [List.getElem?_map, hx]; rfl)
    exact exec_accepted (r := .locate c stride ts) rfl hq hp
      (State.locate_of_good (s := s.taken tag _) hs hsearch ha hgood)
      (State.dueStep_of_search (s := s.taken tag _) _ (fun h => by cases h) hq.2.2)
  · intro refused bar front
    have hrefused {a : Answer} (h : (s.taken tag (.locate c stride ts)).locate c stride ts =
        (s.taken tag (.locate c stride ts), a)) : refused a.result a.payload :=
      exec_refused (r := .locate c stride ts) rfl hq hp h
    have hbar (i : Nat) (x : LocateTarget) : bar i x ↔ GoodTargetBar ((ts.take i).map LocateTarget.bar) x := by
      simp only [bar, GoodTargetBar, List.mem_map, not_exists, not_and, ne_eq]
    refine ⟨fun hs hh => hrefused (State.locate_of_moving (s := s.taken tag _) hs hh), fun hs =>
      ⟨fun hsearch => hrefused (State.locate_of_busy (s := s.taken tag _) hs hsearch),
        fun hsearch ha => hrefused (State.locate_of_noTable (s := s.taken tag _) hs hsearch ha),
        fun table hsearch ha => ?_⟩⟩
    have hfield {i : Nat} (hi : (s.taken tag (.locate c stride ts)).badLocateField table c stride ts = some i) :
        refused .badField [byteOf i] :=
      hrefused (State.locate_of_badField (s := s.taken tag _) hs hsearch ha hi)
    refine ⟨fun h => hfield (State.badLocateField_of_badPlace (State.badPlace_of_step h)), fun t ht =>
      ⟨fun h => hfield (State.badLocateField_of_badPlace (State.badPlace_of_rep ht h)),
        fun h hcourse => hfield (State.badLocateField_of_badPlace (State.badPlace_of_course ht h hcourse)),
        fun h hcourse => ?_⟩⟩
    have hplace : (s.taken tag (.locate c stride ts)).badPlace table c = none := State.badPlace_of_good ht h hcourse
    refine ⟨fun hstride => hfield (State.badLocateField_of_badStride hplace hstride), fun h1 h8 =>
      ⟨fun hcount => hfield (State.badLocateField_of_badCount hplace h1 h8 hcount),
        fun i x hcount1 hcount16 hx hbefore => ?_⟩⟩
    have htargets := State.badLocateField_of_targets hplace h1 h8 hcount1 hcount16
    obtain ⟨hbadBar, hbadFront⟩ := badTargetField_first hx fun j y hj hy =>
      ⟨(hbar j y).mp (hbefore j y hj hy).1, (hbefore j y hj hy).2⟩
    exact ⟨fun h => hfield (htargets.trans (hbadBar (mt (hbar i x).mpr h))),
      fun h hfront => hfield (htargets.trans (hbadFront ((hbar i x).mp h) hfront))⟩
  · rw [exec_locateDone hq]
    unfold State.endLocate
    rw [hnone]
  · intro f
    rw [exec_locateDone hq]
    unfold State.endLocate
    rw [hsome]
    obtain ⟨found, hfound⟩ : ∃ found, found = s.finding q := ⟨_, rfl⟩
    simp only [f, ← hfound]
    obtain ⟨_ | ⟨place, id⟩, visited⟩ := found <;> rfl
  · intro order cell holds visited missesBefore hstart
    have horder (n : Nat) : s.placeOf 0 table n = order[n]? := s.placeOf_eq table 0 n
    have hnumber : s.numberOf table q.start = start := State.numberOf_eq ((horder start).trans hstart)
    have hfinding : s.finding q = s.searchFrom table q (s.passLength table + 1) start 0 := by
      rw [State.finding, ha, Option.getD_some, hnumber]
    have hall (p : FeedCursor × Nat) :
        q.targets.all (targetHolds (s.block p.2) p.1.course) = true ↔ ∀ t ∈ q.targets, holds p t := by
      rw [List.all_eq_true]
      exact forall₂_congr fun t _ => targetHolds_iff _ _ t
    have hmisses (k : Nat) (hbefore : missesBefore k) (j : Nat) (hj : j < k) :
        s.MissesAt table q (start + j * q.stride) := by
      obtain ⟨⟨c, id⟩, hvisited, t, ht, hfails⟩ := hbefore j hj
      exact ⟨c, id, (horder _).trans hvisited, Bool.eq_false_iff.mpr fun h => hfails ((hall (c, id)).mp h t ht)⟩
    refine ⟨fun k ⟨c, id⟩ hbefore hvisited hholds => ?_, fun k hbefore hnone => ?_⟩
    · exact hfinding.trans (State.searchFrom_finds hstride (hmisses k hbefore) ((horder _).trans hvisited)
        ((hall (c, id)).mpr hholds))
    · exact hfinding.trans (State.searchFrom_ends hstride (hmisses k hbefore) ((horder _).trans hnone))

end Sys2Proof.Machine
end

section
/-! PROOF. COURSES (05, R88 to R90): the request judged as a whole, its records taken in turn, the cases by which a record fails, and
what an accepted record leaves. -/

namespace Sys2Proof.Machine

/-! ### COURSES judged as a whole (05, R88) -/

section

variable {s : State} {n : Nat} {bytes : List Byte}

theorem State.courses_of_badCount (h : n < 1 ∨ 4 < n) : s.courses n bytes = (s, refuse .badLength) := by
  simp only [State.courses, rangeCheck_of_bad h, if_true]

variable (h1 : 1 ≤ n) (h4 : n ≤ 4)
include h1 h4

theorem State.courses_of_standby (hs : s.run.state = .standby) : s.courses n bytes = (s, refuse .wrongState) := by
  simp only [State.courses, rangeCheck_of_good h1 h4, hs, Bool.false_eq_true, if_false, if_true]

variable (hs : s.run.state ≠ .standby)
include hs

theorem State.courses_of_noStream (hopen : s.lists.streamOpen = false) : s.courses n bytes = (s, refuse .noStream) := by
  simp only [State.courses, rangeCheck_of_good h1 h4, hs, hopen, Bool.false_eq_true, Bool.not_false, if_false, if_true]

variable (hopen : s.lists.streamOpen = true)
include hopen

theorem State.courses_of_badLength (hlength : bytes.length ≠ n * (6 + 2 * s.lists.streamBars.length)) :
    s.courses n bytes = (s, refuse .badLength) := by
  simp only [State.courses, rangeCheck_of_good h1 h4, hs, hopen, hlength, Bool.false_eq_true, Bool.not_true, ne_eq,
    not_false_eq_true, if_false, if_true]

theorem State.courses_of_good (hlength : bytes.length = n * (6 + 2 * s.lists.streamBars.length)) {t : State}
    {taking : Taking} (htake : takeRecords 0 (recordsOf (6 + 2 * s.lists.streamBars.length) n bytes) s = (t, taking)) :
    s.courses n bytes = (t, coursesAnswer t.lists.expected taking) := by
  simp only [State.courses, rangeCheck_of_good h1 h4, hs, hopen, hlength, htake, Bool.false_eq_true, Bool.not_true, ne_eq,
    not_true_eq_false, if_false]

end

/-- Settles O31: each refusal leaves the part as it took the request; a request that is taken settles the run controller before its
answer goes out. -/
theorem coursesAreTakenInTurn : Obligations.CoursesAreTakenInTurn := by
  intro tag n bytes s hq hp r size
  have hrefused {x : Result} (h : (s.taken tag r).courses n bytes = (s.taken tag r, refuse x)) :
      exec (.courses tag n bytes) s = .next (s.replies tag r x []) :=
    exec_refused (r := r) rfl hq hp h
  refine ⟨fun hn => hrefused (State.courses_of_badCount (hn.imp_left (by omega))),
    fun h1 h4 hs => hrefused (State.courses_of_standby (s := s.taken tag r) h1 h4 hs),
    fun h1 h4 hs hopen => hrefused (State.courses_of_noStream (s := s.taken tag r) h1 h4 hs hopen),
    fun h1 h4 hs hopen hlength => hrefused (State.courses_of_badLength (s := s.taken tag r) h1 h4 hs hopen hlength), ?_⟩
  intro h1 h4 hs hopen hlength t taking htake
  have hhandle : (s.taken tag r).handle r = (t, coursesAnswer t.lists.expected taking) :=
    State.courses_of_good (s := s.taken tag r) h1 h4 hs hopen hlength htake
  rw [exec_settled (c := .courses tag n bytes) rfl hq hp hhandle, coursesAnswer]
  cases taking.failure <;> rfl

/-! ### The taking of records (05, R89) -/

theorem takeRecords_of_failure {s : State} {r : SentRecord} {f : RecordFailure} (h : s.recordFailure r = some f) (n : Nat)
    (rs : List SentRecord) : takeRecords n (r :: rs) s = (s, ⟨n, some f⟩) := by
  simp only [takeRecords, h]

theorem takeRecords_of_good {s : State} {r : SentRecord} (h : s.recordFailure r = none) (n : Nat) (rs : List SentRecord) :
    takeRecords n (r :: rs) s = takeRecords (n + 1) rs (s.takeRecord r) := by
  simp only [takeRecords, h]

/-- Of the records `rs`, the first `k` are taken one after the other from `s`, which comes to `t`, and the record after them, if there
is one, fails there. -/
structure TakesFirst (s t : State) (rs : List SentRecord) (k : Nat) (failure : Option RecordFailure) : Prop where
  count : k ≤ rs.length
  state : t = (rs.take k).foldl State.takeRecord s
  passed : ∀ i, i < k → ∃ r ∈ rs[i]?, ((rs.take i).foldl State.takeRecord s).recordFailure r = none
  all : failure = none ↔ k = rs.length
  failed : ∀ f, failure = some f → ∃ r ∈ rs[k]?, t.recordFailure r = some f

theorem TakesFirst.nil (s : State) : TakesFirst s s [] 0 none where
  count := le_rfl
  state := rfl
  passed _ hi := absurd hi (Nat.not_lt_zero _)
  all := by simp
  failed _ hf := by cases hf

theorem TakesFirst.of_failure {s : State} {r : SentRecord} {f : RecordFailure} (h : s.recordFailure r = some f)
    (rs : List SentRecord) : TakesFirst s s (r :: rs) 0 (some f) where
  count := Nat.zero_le _
  state := rfl
  passed _ hi := absurd hi (Nat.not_lt_zero _)
  all := by simp
  failed g hg := ⟨r, rfl, h.trans hg⟩

theorem TakesFirst.cons {s t : State} {r : SentRecord} {rs : List SentRecord} {k : Nat} {failure : Option RecordFailure}
    (hr : s.recordFailure r = none) (h : TakesFirst (s.takeRecord r) t rs k failure) :
    TakesFirst s t (r :: rs) (k + 1) failure where
  count := Nat.succ_le_succ h.count
  state := h.state
  passed i hi := by
    cases i with
    | zero => exact ⟨r, rfl, hr⟩
    | succ i => exact h.passed i (by omega)
  all := by rw [h.all, List.length_cons, Nat.add_right_cancel_iff]
  failed := h.failed

/-- The records are taken in turn until one fails, wherever the count begins. -/
theorem takeRecords_takesFirst (rs : List SentRecord) : ∀ (n : Nat) (s : State), ∃ k,
    (takeRecords n rs s).2.accepted = n + k ∧
      TakesFirst s (takeRecords n rs s).1 rs k (takeRecords n rs s).2.failure := by
  induction rs with
  | nil => exact fun n s => ⟨0, rfl, .nil s⟩
  | cons r rs ih =>
    intro n s
    cases hr : s.recordFailure r with
    | some f =>
      rw [takeRecords_of_failure hr]
      exact ⟨0, rfl, .of_failure hr rs⟩
    | none =>
      rw [takeRecords_of_good hr]
      obtain ⟨k, hk, htakes⟩ := ih (n + 1) (s.takeRecord r)
      exact ⟨k + 1, by omega, htakes.cons hr⟩

/-! ### The cells of a record (05, R89, cases 3 and 4) -/

/-- The cell is a rest, or a lap pair within the travel of its bar. -/
def State.GoodCell (s : State) (b : Nat) (c : Cell) : Prop :=
  (c.front = 255 ∧ c.back = 255) ∨
    (c.front ≤ 63 ∧ c.back ≤ 63 ∧ c.front ≤ (s.profile b).travel ∧ c.back ≤ (s.profile b).travel)

section

variable {s : State} {b : Nat} {c : Cell}

theorem State.cellFailure_of_good (h : s.GoodCell b c) : s.cellFailure b c = none := by
  have hvalid : validCell c = true := (validCell_iff c).mpr (h.symm.imp_left fun ⟨hfront, hback, _⟩ => ⟨hfront, hback⟩)
  have htravel : overTravel (s.profile b).travel c = none := overTravel_eq_none.mpr fun ⟨hpair, hover⟩ => by
    rcases h with hrest | ⟨-, -, hfront, hback⟩
    · exact hpair hrest
    · omega
  simp [State.cellFailure, hvalid, htravel]

variable (hrest : ¬(c.front = 255 ∧ c.back = 255))
include hrest

theorem State.cellFailure_of_invalid (h : ¬(c.front ≤ 63 ∧ c.back ≤ 63)) : s.cellFailure b c = some ⟨.badCell, b⟩ :=
  if_pos ((not_validCell_iff c).mpr (not_or.mpr ⟨h, hrest⟩))

theorem State.cellFailure_of_beyond (hfront : c.front ≤ 63) (hback : c.back ≤ 63)
    (h : (s.profile b).travel < c.front ∨ (s.profile b).travel < c.back) :
    s.cellFailure b c = some ⟨.badPosition, b⟩ := by
  have hvalid : validCell c = true := (validCell_iff c).mpr (.inl ⟨hfront, hback⟩)
  simp [State.cellFailure, hvalid, overTravel_eq_some ⟨hrest, h⟩]

end

/-- The first item for which there is a value decides. -/
theorem findSome?_eq_of_first {α β : Type} {f : α → Option β} {l : List α} {i : Nat} {x : α} {y : β} (hx : l[i]? = some x)
    (hy : f x = some y) (hfirst : ∀ j z, j < i → l[j]? = some z → f z = none) : l.findSome? f = some y := by
  obtain ⟨rest, hsplit, -⟩ := exists_split_of_getElem? hx
  exact List.findSome?_eq_some_iff.mpr ⟨l.take i, x, rest, hsplit, hy, forall_mem_take hfirst⟩

/-! ### The failure of a record (05, R89) -/

section

variable {s : State} {r : SentRecord}

theorem State.recordFailure_of_full (hc : s.lists.current.isSome = true) (hfull : 32 ≤ s.lists.queue.length) :
    s.recordFailure r = some ⟨.queueFull, 0⟩ := by
  simp [State.recordFailure, hc, Config.queueRoom, hfull]

variable (hroom : s.lists.current = none ∨ s.lists.queue.length < 32)
include hroom

/-- The check of the queue passes with room. -/
theorem State.fullCheck_of_room : (s.lists.current.isSome && decide (Config.queueRoom ≤ s.lists.queue.length)) = false := by
  rcases hroom with h | h
  · simp [h]
  · have hfree : decide (Config.queueRoom ≤ s.lists.queue.length) = false := decide_eq_false (Nat.not_le.mpr h)
    rw [hfree, Bool.and_false]

theorem State.recordFailure_of_gap (h : s.lists.expected ≠ some r.tag) : s.recordFailure r = some ⟨.tagGap, 0⟩ := by
  simp [State.recordFailure, State.fullCheck_of_room hroom, h]

variable (htag : s.lists.expected = some r.tag)
include htag

/-- With room and the expected tag the cells decide, in bar-list order. -/
theorem State.recordFailure_of_cells :
    s.recordFailure r = (s.lists.streamBars.zip r.cells).findSome? fun x => s.cellFailure x.1 x.2 := by
  simp [State.recordFailure, State.fullCheck_of_room hroom, htag]

/-- The first cell that fails decides. -/
theorem State.recordFailure_of_cell {i b : Nat} {c : Cell} (hb : s.lists.streamBars[i]? = some b)
    (hc : r.cells[i]? = some c)
    (hfirst : ∀ j, j < i → ∀ (b' : Nat) (c' : Cell), s.lists.streamBars[j]? = some b' → r.cells[j]? = some c' →
      s.GoodCell b' c') {f : RecordFailure} (hf : s.cellFailure b c = some f) : s.recordFailure r = some f := by
  rw [State.recordFailure_of_cells hroom htag]
  refine findSome?_eq_of_first (i := i) (x := (b, c)) (List.getElem?_zip_eq_some.mpr ⟨hb, hc⟩) hf fun j z hj hz => ?_
  obtain ⟨hzb, hzc⟩ := List.getElem?_zip_eq_some.mp hz
  exact State.cellFailure_of_good (hfirst j hj _ _ hzb hzc)

theorem State.recordFailure_of_good
    (hgood : ∀ (i b : Nat) (c : Cell), s.lists.streamBars[i]? = some b → r.cells[i]? = some c → s.GoodCell b c) :
    s.recordFailure r = none := by
  rw [State.recordFailure_of_cells hroom htag, List.findSome?_eq_none_iff]
  intro x hx
  obtain ⟨i, hi⟩ := List.mem_iff_getElem?.mp hx
  obtain ⟨hb, hc⟩ := List.getElem?_zip_eq_some.mp hi
  exact State.cellFailure_of_good (hgood i _ _ hb hc)

end

/-! ### A record that is taken (05, R71, R72, R74) -/

/-- A rest resolved keeps its bar. -/
@[simp] theorem State.resolve_bar (s : State) (x : RawLap) : (s.resolve x).bar = x.bar := by
  unfold State.resolve
  split <;> rfl

@[simp] theorem streamLap_bar (bars : List Nat) (cells : List Cell) (b : Nat) : (streamLap bars cells b).bar = b := by
  unfold streamLap
  split
  · split <;> rfl
  · rfl

section

variable {s : State} {bars : List Nat} {cells : List Cell} {b : Nat}

theorem State.resolve_streamLap_of_pair {c : Cell} (hc : (bars.idxOf? b).bind (cells[·]?) = some c)
    (h : ¬(c.front = 255 ∧ c.back = 255)) : s.resolve (streamLap bars cells b) = ⟨b, c.front, c.back⟩ := by
  have hpair : isRest c = false := by simpa [isRest] using h
  simp only [streamLap, hc, hpair, Bool.false_eq_true, if_false]
  rfl

theorem State.resolve_streamLap_of_rest (h : (bars.idxOf? b).bind (cells[·]?) = none ∨
      ∃ c, (bars.idxOf? b).bind (cells[·]?) = some c ∧ c.front = 255 ∧ c.back = 255) :
    s.resolve (streamLap bars cells b) = ⟨b, s.restIndex b, s.restIndex b⟩ := by
  rcases h with h | ⟨c, hc, hcell⟩
  · simp only [streamLap, h]
    rfl
  · have hrest : isRest c = true := by simpa [isRest] using hcell
    simp only [streamLap, hc, hrest, if_true]
    rfl

end

/-- The expected tag is no part of what joining the lists brings about. -/
theorem State.Joined.withExpected {s t : State} {x : CourseRecord} (h : s.Joined t x) (e : Option Tag) :
    s.Joined (t.updLists fun l => { l with expected := e }) x := by
  obtain ⟨ks, c, hbefore, hforward, hqueue, hreplay, hlists, hplanner, hlink, hnotice⟩ := h
  exact ⟨ks, c, hbefore, hforward, hqueue, hreplay, congrArg (fun l : Lists => { l with expected := e }) hlists, hplanner,
    hlink, hnotice⟩

theorem State.BecomesCurrent.withExpected {s t : State} {x : CourseRecord} (h : s.BecomesCurrent t x) (e : Option Tag) :
    s.BecomesCurrent (t.updLists fun l => { l with expected := e }) x := by
  obtain ⟨hlists, hplanner, hlink⟩ := h
  exact ⟨congrArg (fun l : Lists => { l with expected := e }) hlists, hplanner, hlink⟩

section

variable (s : State) (r : SentRecord)

/-- The record that a sent record becomes (R71). -/
def State.streamRecord : CourseRecord :=
  s.newRecord r.tag .stream (capOf r.cap) (s.assignedBars.map (streamLap s.lists.streamBars r.cells))

theorem State.streamRecord_laps :
    (s.streamRecord r).laps = s.assignedBars.map fun b => s.resolve (streamLap s.lists.streamBars r.cells b) :=
  List.map_map

/-- The record has a lap for each assigned bar, in rising order. -/
theorem State.streamRecord_bars : (s.streamRecord r).laps.map BarLap.bar = s.assignedBars := by
  simp [State.streamRecord_laps, Function.comp_def]

theorem State.streamRecord_lap {lap : BarLap} (h : lap ∈ (s.streamRecord r).laps) :
    lap = s.resolve (streamLap s.lists.streamBars r.cells lap.bar) := by
  rw [State.streamRecord_laps] at h
  obtain ⟨b, -, rfl⟩ := List.mem_map.mp h
  rw [State.resolve_bar, streamLap_bar]

theorem State.streamRecord_lap_of_pair {lap : BarLap} (h : lap ∈ (s.streamRecord r).laps) {c : Cell}
    (hc : (s.lists.streamBars.idxOf? lap.bar).bind (r.cells[·]?) = some c) (hpair : ¬(c.front = 255 ∧ c.back = 255)) :
    lap.front = c.front ∧ lap.back = c.back := by
  have hlap := (s.streamRecord_lap r h).trans (State.resolve_streamLap_of_pair hc hpair)
  exact ⟨congrArg BarLap.front hlap, congrArg BarLap.back hlap⟩

theorem State.streamRecord_lap_of_rest {lap : BarLap} (h : lap ∈ (s.streamRecord r).laps)
    (hrest : (s.lists.streamBars.idxOf? lap.bar).bind (r.cells[·]?) = none ∨
      ∃ c, (s.lists.streamBars.idxOf? lap.bar).bind (r.cells[·]?) = some c ∧ c.front = 255 ∧ c.back = 255) :
    lap.front = s.restIndex lap.bar ∧ lap.back = s.restIndex lap.bar := by
  have hlap := (s.streamRecord_lap r h).trans (State.resolve_streamLap_of_rest hrest)
  exact ⟨congrArg BarLap.front hlap, congrArg BarLap.back hlap⟩

/-- A record taken joins the lists as any record does (R74). -/
theorem State.takeRecord_appends :
    (s.lists.forward ≠ [] → s.Joined (s.takeRecord r) (s.streamRecord r)) ∧
    (s.lists.forward = [] → s.BecomesCurrent (s.takeRecord r) (s.streamRecord r)) :=
  ⟨fun h => (State.append_joins s _ _ _ _ h).1.withExpected _,
    fun h => (State.append_becomesCurrent s _ _ _ _ h).1.withExpected _⟩

end

/-- Settles O32: an induction along the records gives the taking; a record is judged case by case, and a record taken is an append. -/
theorem recordsAreTakenUntilOneFails : Obligations.RecordsAreTakenUntilOneFails := by
  refine ⟨fun rs s t taking htake => ?_, fun s r => ⟨State.recordFailure_of_full, fun hroom => ?_⟩,
    fun s r hroom htag hgood => State.recordFailure_of_good hroom htag hgood, fun s r => ?_⟩
  · obtain ⟨k, haccepted, htakes⟩ := takeRecords_takesFirst rs 0 s
    rw [htake, Nat.zero_add] at haccepted
    rw [htake, ← haccepted] at htakes
    exact ⟨htakes.count, htakes.state, htakes.passed, htakes.all, htakes.failed⟩
  · refine ⟨State.recordFailure_of_gap hroom, fun htag i b c hb hc hfirst hrest => ⟨fun hinvalid => ?_,
      fun hfront hback hbeyond => ?_⟩⟩
    · exact State.recordFailure_of_cell hroom htag hb hc hfirst (State.cellFailure_of_invalid hrest hinvalid)
    · exact State.recordFailure_of_cell hroom htag hb hc hfirst (State.cellFailure_of_beyond hrest hfront hback hbeyond)
  · obtain ⟨hjoins, hbecomes⟩ := s.takeRecord_appends r
    refine ⟨rfl, s.streamRecord r, rfl, rfl, rfl, rfl, rfl, rfl, s.streamRecord_bars r, fun lap hlap => ?_, hjoins, hbecomes⟩
    cases hcell : (s.lists.streamBars.idxOf? lap.bar).bind (r.cells[·]?) with
    | none => exact s.streamRecord_lap_of_rest r hlap (.inl hcell)
    | some cell =>
      by_cases hrest : cell.front = 255 ∧ cell.back = 255
      · simp only [hrest, and_self, if_true]
        exact s.streamRecord_lap_of_rest r hlap (.inr ⟨cell, hcell, hrest⟩)
      · simp only [hrest, if_false]
        exact s.streamRecord_lap_of_pair r hlap hcell hrest

end Sys2Proof.Machine
end

section
/-! PROOF. The ends of streaming (05, R82, R91 to R93): the record that stands last changed, END_STREAM with its end mark, and
FLUSH_COURSES with what it leaves of the lists. -/

namespace Sys2Proof.Machine

/-! ### The record that stands last changed (05, R72) -/

theorem modifyLast_map {α β : Type} {f : α → α} {g : α → β} (h : ∀ x, g (f x) = g x) (l : List α) :
    (modifyLast f l).map g = l.map g := by
  rcases List.eq_nil_or_concat l with rfl | ⟨ks, c, rfl⟩
  · rfl
  · simp [modifyLast_append, h]

section

variable {l : Lists}

theorem Lists.last_modifyLastRecord {r : CourseRecord} (h : l.last = some r) (f : CourseRecord → CourseRecord) :
    (l.modifyLastRecord f).last = some (f r) := by
  rw [← Lists.getLast?_forward] at h ⊢
  obtain ⟨ks, hks⟩ := List.getLast?_eq_some_iff.mp h
  rw [(l.modifyLastRecord_spec f hks).1, List.getLast?_concat]

/-- What the change keeps of a record, it keeps of every record. -/
theorem Lists.modifyLastRecord_map {β : Type} {f : CourseRecord → CourseRecord} {g : CourseRecord → β}
    (h : ∀ r, g (f r) = g r) : (l.modifyLastRecord f).after.map g = l.after.map g ∧
      (l.modifyLastRecord f).current.map g = l.current.map g := by
  unfold Lists.modifyLastRecord Lists.after
  split
  · simp [modifyLast_map h]
  · split
    · simp [modifyLast_map h]
    · simp [Function.comp_def, h]

theorem Lists.modifyLastRecord_after_length (f : CourseRecord → CourseRecord) :
    (l.modifyLastRecord f).after.length = l.after.length := by
  simpa using congrArg List.length (Lists.modifyLastRecord_map (l := l) (f := f) (g := fun _ => ()) fun _ => rfl).1

theorem Lists.modifyLastRecord_frame (f : CourseRecord → CourseRecord) : l.modifyLastRecord f = { l with
    current := (l.modifyLastRecord f).current, replay := (l.modifyLastRecord f).replay
    queue := (l.modifyLastRecord f).queue } := by
  unfold Lists.modifyLastRecord
  split
  · rfl
  · split <;> rfl

theorem Lists.successor_isSome : l.successor.isSome = decide (0 < l.after.length) := by
  unfold Lists.successor
  cases l.after <;> rfl

end

/-! ### What the lists have to do with the steps that come due (09, R160) -/

/-- Of the lists, whether there are a current record and a successor alone bears on what is due. -/
theorem State.dueStep_of_lists {s : State} {l : Lists} (hc : l.current.isSome = s.lists.current.isSome)
    (hn : l.successor.isSome = s.lists.successor.isSome) : State.dueStep { s with lists := l } = s.dueStep := by
  have hfit : State.fitForRun { s with lists := l } = s.fitForRun := by
    simp only [State.fitForRun, hc, hn]
    rfl
  unfold State.dueStep
  rw [hfit]
  rfl

/-- The stopped check marks and notifies, and makes nothing due. -/
theorem State.dueStep_stoppedCheck (s : State) : s.stoppedCheck.dueStep = s.dueStep := by
  unfold State.stoppedCheck State.reportRunEnd State.reportStarved
  split
  · split
    · split <;> rfl
    · split <;> rfl
  · rfl

/-! ### END_STREAM (05, R91) -/

section

variable {s : State}

theorem State.endStream_of_standby (hs : s.run.state = .standby) : s.endStream = (s, refuse .wrongState) := if_pos hs

variable (hs : s.run.state ≠ .standby)
include hs

theorem State.endStream_of_noStream (hopen : s.lists.streamOpen = false) : s.endStream = (s, refuse .noStream) := by
  simp only [State.endStream, hs, hopen, Bool.not_false, if_false, if_true]

variable (hopen : s.lists.streamOpen = true)
include hopen

theorem State.endStream_of_empty (hlast : s.lists.last = none) : s.endStream = (s, refuse .wrongState) := by
  simp only [State.endStream, hs, hopen, hlast, Bool.not_true, Bool.false_eq_true, if_false]

theorem State.endStream_of_last {r : CourseRecord} (hlast : s.lists.last = some r) :
    s.endStream = ((s.updLists Lists.endStream).stoppedCheck, accept (tagBytes r.tag)) := by
  simp only [State.endStream, hs, hopen, hlast, Bool.not_true, Bool.false_eq_true, if_false]

end

theorem Lists.last_of_empty {l : Lists} (hc : l.current = none) (ha : l.after = []) : l.last = none := by
  simp [Lists.last, ha, hc]

/-- Settles O33: the mark leaves a current record and a successor where they were, so that nothing comes due by it. -/
theorem endStreamMarksTheLastRecord : Obligations.EndStreamMarksTheLastRecord := by
  refine ⟨fun tag r s hq hp hs hopen hlast => ?_, fun tag s hq hp => ?_⟩
  · intro ended
    refine ⟨Lists.last_modifyLastRecord hlast _, ?_⟩
    have hhandle := State.endStream_of_last (s := s.taken tag .endStream) hs hopen hlast
    have hcurrent : ended.current.isSome = s.lists.current.isSome := (s.lists.modifyLastRecord_keeps _).1
    have hnext : ended.successor.isSome = s.lists.successor.isSome := by
      rw [Lists.successor_isSome, Lists.successor_isSome, Lists.modifyLastRecord_after_length]
    have hdue : ((s.taken tag .endStream).updLists Lists.endStream).stoppedCheck.dueStep = none := by
      rw [State.dueStep_stoppedCheck]
      exact (State.dueStep_of_lists (s := s) hcurrent hnext).trans hq.2.2
    exact exec_accepted (c := .endStream tag) (r := .endStream) rfl hq hp hhandle hdue
  · intro refused
    have hrefused {x : Result} (h : (s.taken tag .endStream).endStream = (s.taken tag .endStream, refuse x)) : refused x :=
      exec_refused (r := .endStream) rfl hq hp h
    exact ⟨fun hs => hrefused (State.endStream_of_standby (s := s.taken tag .endStream) hs),
      fun hs hopen => hrefused (State.endStream_of_noStream (s := s.taken tag .endStream) hs hopen),
      fun hs hopen hc ha =>
        hrefused (State.endStream_of_empty (s := s.taken tag .endStream) hs hopen (Lists.last_of_empty hc ha))⟩

/-! ### What a flush leaves of the lists (05, R92, R93; 06, R103) -/

/-- How many of the records after current a flush leaves: a bound successor alone. -/
def Lists.boundCount (l : Lists) : Nat := if l.bound then 1 else 0

section

variable (l : Lists)

theorem Lists.flushed_after : l.flushed.after = l.after.take l.boundCount := by
  unfold Lists.flushed Lists.boundCount Lists.after
  cases l.bound with
  | false => simp
  | true => cases hr : l.replay <;> simp

theorem Lists.flushed_frame : l.flushed = { l with replay := l.flushed.replay, queue := l.flushed.queue } := by
  unfold Lists.flushed
  split
  · split <;> rfl
  · rfl

theorem Lists.flushes_eq : l.flushes = l.after.drop l.boundCount := by
  rw [Lists.flushes, Lists.flushed_after, List.length_take]
  by_cases h : l.boundCount ≤ l.after.length
  · rw [min_eq_left h]
  · rw [List.drop_eq_nil_of_le (by omega), List.drop_eq_nil_of_le (by omega)]

theorem Lists.resumeStream_frame (removed : List CourseRecord) : l.resumeStream removed = { l with
    expected := (l.resumeStream removed).expected, endSeen := (l.resumeStream removed).endSeen
    streamOpen := (l.resumeStream removed).streamOpen } := by
  unfold Lists.resumeStream
  split
  · dsimp only
    split <;> rfl
  · rfl

variable {l} {removed : List CourseRecord} (hsource : l.source = .stream)
include hsource

theorem Lists.resumeStream_expected (hremoved : removed ≠ []) :
    (l.resumeStream removed).expected = l.last.map fun r => r.tag + 1 := by
  unfold Lists.resumeStream
  simp only [hsource, hremoved, ne_eq, not_false_eq_true, decide_true, Bool.and_self, if_true]
  split <;> rfl

/-- A stream whose end mark went with the records removed opens again, if END_STREAM had closed it. -/
theorem Lists.resumeStream_reopens (hend : ∃ r ∈ removed, r.endMark = true) :
    (l.resumeStream removed).endSeen = false ∧
      (l.resumeStream removed).streamOpen = (l.streamOpen || l.endSeen) := by
  have hany : removed.any CourseRecord.endMark = true := List.any_eq_true.mpr hend
  obtain ⟨r, hr, -⟩ := hend
  simp [Lists.resumeStream, hsource, List.ne_nil_of_mem hr, hany]

end

/-- The record without its ceiling, as it stands last (R103). -/
def CourseRecord.withoutCeiling (r : CourseRecord) : CourseRecord := { r with ceiling := none }

/-- The lists once a flush has removed its records, and before the stream goes on from there (R92, R103). -/
def Lists.cut (l : Lists) : Lists := l.flushed.modifyLastRecord CourseRecord.withoutCeiling

section

variable (l : Lists)

theorem Lists.cut_frame : l.cut = { l with current := l.cut.current, replay := l.cut.replay, queue := l.cut.queue } :=
  (Lists.modifyLastRecord_frame _).trans (congrArg (fun x : Lists => { x with
    current := l.cut.current, replay := l.cut.replay, queue := l.cut.queue }) l.flushed_frame)

/-- The records that are left keep what the ceiling is no part of. -/
theorem Lists.cut_map {β : Type} {g : CourseRecord → β} (h : ∀ r, g r.withoutCeiling = g r) :
    l.cut.after.map g = (l.after.take l.boundCount).map g ∧ l.cut.current.map g = l.current.map g := by
  obtain ⟨hafter, hcurrent⟩ := Lists.modifyLastRecord_map (l := l.flushed) h
  rw [Lists.flushed_after] at hafter
  have hkept : l.flushed.current = l.current := by rw [Lists.flushed_frame]
  exact ⟨hafter, hcurrent.trans (congrArg (Option.map g) hkept)⟩

theorem Lists.last_cut (hc : l.current.isSome = true) : ∃ r, l.cut.last = some r ∧ r.ceiling = none := by
  have hcurrent : l.flushed.current.isSome = true := by rw [Lists.flushed_frame]; exact hc
  obtain ⟨r, hr⟩ : ∃ r, l.flushed.last = some r := by
    unfold Lists.last
    cases l.flushed.after.getLast? with
    | none => exact Option.isSome_iff_exists.mp hcurrent
    | some r => exact ⟨r, rfl⟩
  exact ⟨r.withoutCeiling, Lists.last_modifyLastRecord hr _, rfl⟩

variable {l}

theorem Lists.flush_of_nothing (h : l.after.length ≤ l.boundCount) : l.flush = l :=
  if_pos (l.flushes_eq.trans (List.drop_eq_nil_of_le h))

theorem Lists.flushes_ne_nil (h : l.boundCount < l.after.length) : l.flushes ≠ [] := by
  rw [Lists.flushes_eq, ne_eq, List.drop_eq_nil_iff]
  omega

theorem Lists.flush_of_removed (h : l.boundCount < l.after.length) : l.flush = l.cut.resumeStream l.flushes :=
  if_neg (Lists.flushes_ne_nil h)

variable (l)

/-- Whatever a flush removes, the current record and a bound successor stay, with the history and the binding. -/
theorem Lists.flush_keeps : l.flush.history = l.history ∧ l.flush.bound = l.bound ∧
    l.flush.current.map CourseRecord.tag = l.current.map CourseRecord.tag ∧
    l.flush.after.map CourseRecord.tag = (l.after.take l.boundCount).map CourseRecord.tag := by
  rcases Nat.lt_or_ge l.boundCount l.after.length with h | h
  · obtain ⟨hafter, hcurrent⟩ := l.cut_map (g := CourseRecord.tag) fun _ => rfl
    rw [Lists.flush_of_removed h, Lists.resumeStream_frame]
    refine ⟨?_, ?_, hcurrent, hafter⟩
    · rw [Lists.cut_frame]
    · rw [Lists.cut_frame]
  · rw [Lists.flush_of_nothing h, List.take_of_length_le h]
    exact ⟨rfl, rfl, rfl, rfl⟩

/-- The number of the records removed, as FLUSH_COURSES replies it. -/
theorem Lists.flushes_length : l.flushes.length = l.after.length - l.flush.after.length := by
  obtain ⟨-, -, -, hafter⟩ := l.flush_keeps
  have hleft : l.flush.after.length = min l.boundCount l.after.length := by
    simpa using congrArg List.length hafter
  rw [Lists.flushes_eq, List.length_drop, hleft]
  omega

/-- What a flush that removed records leaves last, and what it leaves of the stream (R93, R103). -/
theorem Lists.flush_resumes (hc : l.current.isSome = true) (h : l.boundCount < l.after.length) :
    (∃ r, l.flush.last = some r ∧ r.ceiling = none ∧ (l.source = .stream → l.flush.expected = some (r.tag + 1))) ∧
    (l.source = .stream → (∃ r ∈ l.after.drop l.boundCount, r.endMark = true) →
      l.flush.endSeen = false ∧ l.flush.streamOpen = (l.streamOpen || l.endSeen)) := by
  have hsource (hs : l.source = .stream) : l.cut.source = .stream := by rw [Lists.cut_frame]; exact hs
  rw [Lists.flush_of_removed h]
  refine ⟨?_, fun hs hend => ?_⟩
  · obtain ⟨r, hr, hceiling⟩ := l.last_cut hc
    refine ⟨r, ?_, hceiling, fun hs => ?_⟩
    · rw [Lists.resumeStream_frame]
      exact hr
    · rw [Lists.resumeStream_expected (hsource hs) (Lists.flushes_ne_nil h), hr, Option.map_some]
  · rw [← Lists.flushes_eq] at hend
    obtain ⟨hseen, hopen⟩ := Lists.resumeStream_reopens (hsource hs) hend
    refine ⟨hseen, hopen.trans ?_⟩
    rw [Lists.cut_frame]

end

/-! ### FLUSH_COURSES (05, R92, R93) -/

@[simp] theorem State.run_taken (s : State) (tag : Tag) (r : Request) : (s.taken tag r).run = s.run := rfl

section

variable {s : State}

theorem State.flushCourses_of_busy (hc : s.run.changing = true) : s.flushCourses = (s, refuse .busy) := if_pos hc

variable (hc : s.run.changing = false)
include hc

theorem State.flushCourses_of_moving (hstopped : s.tracker.stopped = false) :
    s.flushCourses = (s, refuse .shaftMoving) := by
  simp only [State.flushCourses, hc, hstopped, Bool.false_eq_true, Bool.not_false, if_false, if_true]

theorem State.flushCourses_of_stopped (hstopped : s.tracker.stopped = true) : s.flushCourses =
    ((s.updLists Lists.flush).replan.stoppedCheck.feed, accept [byteOf s.lists.flushes.length]) := by
  simp only [State.flushCourses, hc, hstopped, Bool.false_eq_true, Bool.not_true, if_false]

end

/-- Settles O34: the request is judged by its table; of the lists, the cases are whether a flush removes anything. -/
theorem flushLeavesABoundSuccessor : Obligations.FlushLeavesABoundSuccessor := by
  refine ⟨fun tag s hq hp => ⟨fun hc => ?_, fun hc hstopped => ?_, fun hc hstopped hw => ?_⟩, fun l c hcurrent => ?_⟩
  · exact exec_refused (r := .flushCourses) rfl hq hp (State.flushCourses_of_busy (s := s.taken tag .flushCourses) hc)
  · exact exec_refused (r := .flushCourses) rfl hq hp
      (State.flushCourses_of_moving (s := s.taken tag .flushCourses) hc hstopped)
  · have hhandle := State.flushCourses_of_stopped (s := s.taken tag .flushCourses) hc hstopped
    rw [Lists.flushes_length] at hhandle
    have hdue : (((s.taken tag .flushCourses).updLists Lists.flush).replan.stoppedCheck.feed).dueStep = none :=
      State.dueStep_feed (by simpa using hc) (by simpa using hw)
    exact exec_accepted (c := .flushCourses tag) (r := .flushCourses) rfl hq hp hhandle hdue
  · obtain ⟨hhistory, hbound, hkept, hafter⟩ := l.flush_keeps
    have hleft : l.after.take l.boundCount = if l.bound then l.after.take 1 else [] := by
      unfold Lists.boundCount
      split <;> rfl
    rw [hcurrent] at hkept
    rw [hleft] at hafter
    exact ⟨hhistory, hbound, hkept, hafter, Lists.flush_of_nothing, l.flush_resumes (by rw [hcurrent]; rfl)⟩

end Sys2Proof.Machine
end

section
/-! PROOF. The crossings at the lists (05, R76, R77, R79, R83): each branch of the two said once, the permit that they leave, and the
reports past the ends of the lists. -/

namespace Sys2Proof.Machine

/-! ### The permit through a report (06, R107) -/

/-- The planner holds what the lists give. -/
def State.Planned (s : State) : Prop := s.planner = planOf s.machine s.lists

theorem State.replan_planned (s : State) : s.replan.Planned := by
  obtain ⟨hlists, -, hplanner⟩ := s.replan_lists_link
  have hmachine : s.replan.machine = s.machine := by simp
  rw [State.Planned, hplanner, hlists, hmachine]

section

variable {s : State}

theorem State.Planned.reportRunEnd (h : s.Planned) (detail : Nat) : (s.reportRunEnd detail).Planned := by
  unfold State.reportRunEnd
  split
  · exact h
  · exact h

theorem State.Planned.coast (h : s.Planned) : s.coast.Planned := by
  unfold State.coast
  split
  · exact h
  · exact h

theorem State.haltOn_planned (cause : Cause) (detail bar : Nat) (speed : Option Nat) (peak : Nat) :
    (s.haltOn cause detail bar speed peak).Planned := by
  have hhalted := State.replan_planned (s.updRun fun r =>
    { r with state := .halt, halt := some ⟨cause, detail, bar, s.currentTag, s.tracker.angle, s.tracker.speed⟩ })
  exact State.Planned.coast hhalted

theorem State.Planned.report (h : s.Planned) (cause : Cause) (detail bar : Nat) : (s.report cause detail bar).Planned := by
  unfold State.report State.reportWith
  split
  · exact State.haltOn_planned ..
  · exact h
  all_goals
    split
    · exact h
    · split
      · exact h
      · exact h

theorem State.Planned.reportUnderrun (h : s.Planned) : s.reportUnderrun.Planned := by
  unfold State.reportUnderrun
  split
  · exact h
  · exact State.Planned.report (s := s.updLists fun l => { l with underrunMark := true }) h _ _ _

theorem State.crossForward_planned (s : State) : s.crossForward.Planned := by
  obtain ⟨f, hcross | hcross | hcross⟩ := s.crossForward_cases
  · rw [hcross]
    exact State.replan_planned _
  · rw [hcross]
    exact (State.replan_planned _).reportRunEnd _
  · rw [hcross]
    exact (State.replan_planned _).reportUnderrun

end

/-! ### The reports at the end of the lists (05, R82, R83) -/

section

variable (s : State)

/-- RUN_END reported or not, its mark stands. -/
theorem State.reportRunEnd_lists (detail : Nat) : (s.reportRunEnd detail).lists = { s.lists with endMark := true } := by
  unfold State.reportRunEnd
  split
  · next hmark => rw [← hmark]
  · rfl

/-- UNDERRUN reported or not, its mark stands. -/
theorem State.reportUnderrun_lists : s.reportUnderrun.lists = { s.lists with underrunMark := true } := by
  unfold State.reportUnderrun
  split
  · next hmark => rw [← hmark]
  · simp

variable {s}

theorem State.reportRunEnd_of_marked (h : s.lists.endMark = true) (detail : Nat) : s.reportRunEnd detail = s := if_pos h

theorem State.reportUnderrun_of_marked (h : s.lists.underrunMark = true) : s.reportUnderrun = s := if_pos h

variable {c : CourseRecord} (hc : s.lists.current = some c)
include hc

theorem State.reportRunEnd_link (h : s.lists.endMark = false) (detail : Nat) : (s.reportRunEnd detail).link = s.link.offer
    ⟨.runEnd s.lists.source s.lists.history.length, detail, 0, c.tag, s.tracker.angle⟩ := by
  simp [State.reportRunEnd, h, State.currentTag, hc]

variable (h : s.lists.underrunMark = false)
include h

/-- In RUN an UNDERRUN halts the machine (09, R167). -/
theorem State.reportUnderrun_halts (hrun : s.run.state = .run) :
    s.reportUnderrun.run.state = .halt ∧
    s.reportUnderrun.run.halt = some ⟨.underrun, 0, 0, c.tag, s.tracker.angle, s.tracker.speed⟩ ∧
    s.reportUnderrun.link = s.link.offer ⟨.halted 0 s.tracker.speed 0 s.run.requested, 0x01, 0, c.tag, s.tracker.angle⟩ := by
  have hreport : s.reportUnderrun =
      (s.updLists fun l => { l with underrunMark := true }).haltOn .underrun 0 0 s.tracker.speed 0 := by
    rw [State.reportUnderrun, h]
    exact State.reportWith_of_run (s := s.updLists fun l => { l with underrunMark := true }) hrun ..
  rw [hreport, State.haltOn_run, State.haltOn_link]
  simp [State.currentTag, hc, causeCode]

/-- In HALT an UNDERRUN is a further fault (09, R168). -/
theorem State.reportUnderrun_further (hhalt : s.run.state = .halt) :
    s.reportUnderrun.run.state = .halt ∧ s.reportUnderrun.run.halt = s.run.halt ∧
    s.reportUnderrun.link =
      s.link.offer ⟨.furtherFault 0 s.tracker.speed 0 s.run.requested, 0x01, 0, c.tag, s.tracker.angle⟩ := by
  have hreport : s.reportUnderrun = (s.updLists fun l => { l with underrunMark := true }).notify
      (.furtherFault 0 s.tracker.speed 0 s.run.requested) (causeCode .underrun) 0 := by
    rw [State.reportUnderrun, h]
    exact State.reportWith_of_halt (s := s.updLists fun l => { l with underrunMark := true }) hhalt ..
  rw [hreport]
  simp [hhalt, State.currentTag, hc, causeCode]

end

/-! ### The branches of a forward crossing (05, R76, R79) -/

section

variable (s : State) (f : Lists → Lists)

@[simp] theorem State.replan_moved_lists : (s.updLists f).replan.lists = f s.lists := by simp

/-- A recomputation of the permit after a move of the lists reports nothing. -/
theorem State.replan_reports_nothing : (s.updLists f).replan.link = s.link ∧
    (s.updLists f).replan.run.state = s.run.state ∧ (s.updLists f).replan.channels = s.channels := by simp

end

/-- The shaft one course ahead of the lists, the permit recomputed, and nothing reported yet (R76). -/
def State.ranPast (s : State) : State := (s.updLists fun l => { l with ahead := 1 }).replan

@[simp] theorem State.ranPast_lists (s : State) : s.ranPast.lists = { s.lists with ahead := 1 } := State.replan_moved_lists ..

@[simp] theorem State.ranPast_keeps (s : State) : s.ranPast.link = s.link ∧ s.ranPast.tracker = s.tracker ∧
    s.ranPast.channels = s.channels ∧ s.ranPast.run.state = s.run.state ∧ s.ranPast.run.requested = s.run.requested ∧
    s.ranPast.run.halt = s.run.halt := by
  simp [State.ranPast]

/-- A record joins the history, and the oldest one leaves it when its 16 places are full (R76). -/
theorem joinHistory_eq (h : List CourseRecord) (c : CourseRecord) :
    joinHistory h c = (h ++ [c]).drop (h.length + 1 - 16) := by
  simp [joinHistory, Config.historyRoom]

section

variable {s : State}

theorem State.crossForward_of_ahead (h : 0 < s.lists.ahead) :
    s.crossForward = (s.updLists fun l => { l with ahead := min 65535 (l.ahead + 1) }).replan := if_pos h

variable (ha : s.lists.ahead = 0)
include ha

theorem State.crossForward_of_behind (h : 0 < s.lists.behind) :
    s.crossForward = (s.updLists fun l => { l with behind := l.behind - 1 }).replan :=
  (if_neg (by omega)).trans (if_pos h)

variable (hb : s.lists.behind = 0)
include hb

/-- A crossing with no bound successor runs past the current record, and one of the two ends is reported (R76, R83). -/
theorem State.crossForward_of_past
    (h : s.lists.current = none ∨ s.lists.successor = none ∨ s.lists.bound = false) :
    s.crossForward = if s.lists.atEnd then s.ranPast.reportRunEnd 0x01 else s.ranPast.reportUnderrun := by
  unfold State.crossForward
  simp only [ha, hb, Nat.lt_irrefl, if_false]
  split
  · next hc hn hbound => simp [hc, hn, hbound] at h
  · rfl

end

section

variable {s : State} {c : CourseRecord} (ha : s.lists.ahead = 0) (hb : s.lists.behind = 0)
  (hc : s.lists.current = some c) (hnext : s.lists.successor = none ∨ s.lists.bound = false)
include ha hb hc hnext

theorem State.crossForward_of_runEnd (hend : c.endMark = true) : s.crossForward = s.ranPast.reportRunEnd 0x01 := by
  rw [State.crossForward_of_past ha hb (.inr hnext), if_pos (by simp [Lists.atEnd, hc, hend])]

theorem State.crossForward_of_underrun (hend : c.endMark = false) : s.crossForward = s.ranPast.reportUnderrun := by
  rw [State.crossForward_of_past ha hb (.inr hnext), if_neg (by simp [Lists.atEnd, hc, hend])]

end

/-- Settles O35: the branches of the crossing, each a move of the lists with the permit recomputed, the last with its report. -/
theorem forwardCrossingMovesTheLists : Obligations.ForwardCrossingMovesTheLists := by
  refine ⟨joinHistory_eq, fun s => ?_⟩
  intro l t unreported
  have hmoves {f : Lists → Lists} (h : t = (s.updLists f).replan) : t.lists = f l ∧ unreported := by
    simp only [unreported, h]
    exact ⟨State.replan_moved_lists .., State.replan_reports_nothing ..⟩
  refine ⟨s.crossForward_planned, fun h => hmoves (State.crossForward_of_ahead h),
    fun ha h => hmoves (State.crossForward_of_behind ha h), fun c n ha hb hc hn hbound =>
      hmoves (State.crossForward_of_bound (by simp [Lists.inStep, l, ha, hb]) hc hn hbound), fun ha hb h => ?_,
    fun c ha hb hc hnext => ⟨fun hend hmark => ?_, fun hend hmark => ?_, fun hend hmark => ?_, fun hend hmark => ?_⟩⟩
  · have hcross : t = _ := State.crossForward_of_past ha hb h
    rw [hcross]
    split
    · rw [State.reportRunEnd_lists, State.ranPast_lists]
      exact ⟨rfl, rfl, rfl, rfl⟩
    · rw [State.reportUnderrun_lists, State.ranPast_lists]
      exact ⟨rfl, rfl, rfl, rfl⟩
  · have hcross : t = _ := State.crossForward_of_runEnd ha hb hc hnext hend
    rw [State.reportRunEnd_of_marked (by simpa using hmark)] at hcross
    exact hmoves hcross
  · have hcross : t = _ := State.crossForward_of_runEnd ha hb hc hnext hend
    have hlink := State.reportRunEnd_link (s := s.ranPast) (c := c) (by simpa using hc) (by simpa using hmark) 0x01
    rw [hcross, State.reportRunEnd_lists, hlink]
    simp [l]
  · have hcross : t = _ := State.crossForward_of_underrun ha hb hc hnext hend
    rw [State.reportUnderrun_of_marked (by simpa using hmark)] at hcross
    exact hmoves hcross
  · have hcross : t = _ := State.crossForward_of_underrun ha hb hc hnext hend
    have hcurrent : s.ranPast.lists.current = some c := by simpa using hc
    have hunmarked : s.ranPast.lists.underrunMark = false := by simpa using hmark
    rw [hcross]
    refine ⟨by rw [State.reportUnderrun_lists, State.ranPast_lists], fun hrun => ?_, fun hhalt => ?_⟩
    · simpa using State.reportUnderrun_halts hcurrent hunmarked (by simpa using hrun)
    · simpa using State.reportUnderrun_further hcurrent hunmarked (by simpa using hhalt)

/-! ### The branches of a backward crossing (05, R77) -/

section

variable {s : State}

theorem State.crossBackward_of_ahead (h : 0 < s.lists.ahead) :
    s.crossBackward = (s.updLists fun l => { l with ahead := l.ahead - 1 }).replan := if_pos h

variable (ha : s.lists.ahead = 0)
include ha

theorem State.crossBackward_of_history {c newest : CourseRecord} {h : List CourseRecord}
    (hc : s.lists.current = some c) (hh : s.lists.history = h ++ [newest]) :
    s.crossBackward = (s.updLists fun l => l.stepBackward c newest).replan := by
  have hnewest : s.lists.history.getLast? = some newest := by rw [hh, List.getLast?_concat]
  simp only [State.crossBackward, ha, Nat.lt_irrefl, if_false, hc, hnewest]

/-- With no history the lists stay behind the shaft, and the first such crossing is reported. -/
theorem State.crossBackward_of_limit (hh : s.lists.history = []) :
    s.crossBackward = if s.lists.behind = 0
      then (s.updLists fun l => { l with behind := min 65535 (l.behind + 1) }).replan.report .reverseLimit 0 0
      else (s.updLists fun l => { l with behind := min 65535 (l.behind + 1) }).replan := by
  simp only [State.crossBackward, ha, Nat.lt_irrefl, if_false, hh, List.getLast?_nil]
  cases s.lists.current <;> rfl

end

/-- Settles O36: a move of the lists in each branch; a report leaves them, and in RUN it halts the machine. -/
theorem backwardCrossingRetracesTheLists : Obligations.BackwardCrossingRetracesTheLists := by
  intro s l t
  refine ⟨fun h => ?_, fun c h r ha hc hh => ?_, fun ha hh => ⟨?_, fun hb hrun => ?_⟩⟩
  · have hcross : t = _ := State.crossBackward_of_ahead h
    rw [hcross]
    exact State.replan_moved_lists ..
  · have hcross : t = _ := State.crossBackward_of_history ha hc hh
    rw [hcross, State.replan_moved_lists]
    refine ⟨rfl, ?_, rfl, rfl, rfl⟩
    show s.lists.history.dropLast = h
    rw [hh, List.dropLast_concat]
  · have hcross : t = _ := State.crossBackward_of_limit ha hh
    rw [hcross]
    split
    · simp [l]
    · exact State.replan_moved_lists ..
  · have hcross : t = _ := State.crossBackward_of_limit ha hh
    rw [hcross, if_pos hb, State.report, State.reportWith_of_run (by simpa using hrun), State.haltOn_run]
    exact ⟨rfl, _, rfl, rfl⟩

end Sys2Proof.Machine
end

section
/-! PROOF. The lapping planner (06, R97 to R106): the move times and speeds of a profile, and the first lowest of a list of
candidates, which is the ceiling of a record and, of other candidates, the permit. -/

namespace Sys2Proof.Machine

/-! ### The square root rounded up (00, Arithmetic) -/

/-- A root known to within `2 ^ k` is narrowed bit by bit to within 1. -/
theorem rootBelow_brackets {q : Nat} : ∀ {k r : Nat}, r * r < q → q ≤ (r + 2 ^ k) * (r + 2 ^ k) →
    rootBelow q k r * rootBelow q k r < q ∧ q ≤ (rootBelow q k r + 1) * (rootBelow q k r + 1)
  | 0, _, hlow, hhigh => ⟨hlow, hhigh⟩
  | k + 1, r, hlow, hhigh => by
    unfold rootBelow
    split
    case isTrue hbit =>
      refine rootBelow_brackets hbit ?_
      rwa [Nat.add_assoc, ← Nat.two_mul, ← Nat.pow_succ']
    case isFalse hbit => exact rootBelow_brackets hlow (Nat.le_of_not_lt hbit)

/-- The bits that `sqrtUp` tries are enough for the root. -/
theorem le_sq_two_pow_half_log2 (q : Nat) : q ≤ 2 ^ (q.log2 / 2 + 1) * 2 ^ (q.log2 / 2 + 1) := by
  have hexp : q.log2 + 1 ≤ (q.log2 / 2 + 1) + (q.log2 / 2 + 1) := by omega
  calc q ≤ 2 ^ (q.log2 + 1) := Nat.lt_log2_self.le
    _ ≤ 2 ^ ((q.log2 / 2 + 1) + (q.log2 / 2 + 1)) := Nat.pow_le_pow_right Nat.two_pos hexp
    _ = _ := Nat.pow_add ..

/-- The root rounded up is the least number whose square is large enough. -/
theorem sqrtUp_le_iff {q c : Nat} : sqrtUp q ≤ c ↔ q ≤ c * c := by
  unfold sqrtUp
  split
  case isTrue hzero => simp [hzero]
  case isFalse hq =>
    obtain ⟨hbelow, hreach⟩ := rootBelow_brackets (q := q) (k := q.log2 / 2 + 1) (r := 0) (by omega)
      (by simpa using le_sq_two_pow_half_log2 q)
    constructor
    · exact fun hc => hreach.trans (Nat.mul_self_le_mul_self hc)
    · exact fun hc => Nat.mul_self_lt_mul_self_iff.mp (hbelow.trans_le hc)

/-! ### Times and speeds of a move (06, R98 to R100) -/

theorem accelRoot_le_iff {p : Profile} (hp : 0 < p.accel) {s c : Nat} :
    sqrtUp (divUp (1000000 * s) p.accel) ≤ c ↔ 1000000 * s ≤ c * c * p.accel := by
  rw [sqrtUp_le_iff, divUp_le_iff hp]

theorem speedTime_le_iff {p : Profile} (hp : 0 < p.speed) {s t : Nat} : speedTime p s ≤ t ↔ 2000 * s ≤ t * p.speed :=
  divUp_le_iff hp

theorem moveTime_of_pos (p : Profile) {s : Nat} (hs : 0 < s) : moveTime p s = max (accelTime p s) (speedTime p s) :=
  if_neg hs.ne'

theorem moveSpeed_of_pos (m : MachineRecord) (p : Profile) (w : Nat) {d : Nat} (hd : 0 < d) :
    moveSpeed m p w d = min (w * 15000 / moveTime p (d * m.pitch)) m.vmax := if_neg hd.ne'

theorem moveSpeed_zero (m : MachineRecord) (p : Profile) (w : Nat) : moveSpeed m p w 0 = m.vmax := if_pos rfl

/-- Settles O37: each of the two times is the least number that satisfies its inequality. -/
theorem moveTimesFollowTheProfile : Obligations.MoveTimesFollowTheProfile := by
  intro m p s d w hs hd haccel hspeed _
  refine ⟨⟨sqrtUp (divUp (1000000 * s) p.accel), rfl, ?_, ?_⟩, ⟨?_, ?_⟩, moveTime_of_pos p hs, moveSpeed_of_pos m p w hd,
    moveSpeed_zero m p w⟩
  · exact (accelRoot_le_iff haccel).mp le_rfl
  · exact fun _ => (accelRoot_le_iff haccel).mpr
  · exact (speedTime_le_iff hspeed).mp le_rfl
  · exact fun _ => (speedTime_le_iff hspeed).mpr

/-! ### The first lowest of a list (06, R101, R106) -/

section

variable {α : Type} {value : α → Nat}

/-- An item of a list that no item lies below and that every item before it lies above. -/
def IsFirstLowest (value : α → Nat) (xs : List α) (x : α) : Prop :=
  ∃ i : Nat, xs[i]? = some x ∧ ∀ (j : Nat) (y : α), xs[j]? = some y → value x ≤ value y ∧ (j < i → value x < value y)

theorem isFirstLowest_singleton (x : α) : IsFirstLowest value [x] x := by
  refine ⟨0, rfl, fun j y hy => ?_⟩
  obtain rfl : y = x := by simpa using List.mem_of_getElem? hy
  exact ⟨le_rfl, fun hj => absurd hj (Nat.not_lt_zero j)⟩

/-- One more item at the end is the first lowest when it is lower, and else leaves the first lowest. -/
theorem IsFirstLowest.concat {xs : List α} {x : α} (h : IsFirstLowest value xs x) (y : α) :
    IsFirstLowest value (xs ++ [y]) (if value y < value x then y else x) := by
  obtain ⟨i, hi, hlow⟩ := h
  have hlength : i < xs.length := (List.getElem?_eq_some_iff.mp hi).1
  have hsplit : ∀ {j : Nat} {z : α}, (xs ++ [y])[j]? = some z → xs[j]? = some z ∨ j = xs.length ∧ z = y := by
    intro j z hz
    rcases Nat.lt_trichotomy j xs.length with hj | rfl | hj
    · exact .inl (by rwa [List.getElem?_append_left hj] at hz)
    · exact .inr ⟨rfl, by simpa using hz.symm⟩
    · rw [List.getElem?_eq_none (by simpa using hj)] at hz
      cases hz
  split
  case isTrue hy =>
    refine ⟨xs.length, List.getElem?_concat_length, fun j z hz => ?_⟩
    obtain hz | ⟨rfl, rfl⟩ := hsplit hz
    · have hlt : value y < value z := hy.trans_le (hlow j z hz).1
      exact ⟨hlt.le, fun _ => hlt⟩
    · exact ⟨le_rfl, fun hj => absurd hj (Nat.lt_irrefl _)⟩
  case isFalse hy =>
    refine ⟨i, by rwa [List.getElem?_append_left hlength], fun j z hz => ?_⟩
    obtain hz | ⟨rfl, rfl⟩ := hsplit hz
    · exact hlow j z hz
    · exact ⟨Nat.le_of_not_lt hy, fun hj => absurd hj hlength.asymm⟩

/-- Folding with the lower of two, the first when they are equal, ends at the first lowest. -/
theorem isFirstLowest_foldl {lower : α → α → α} (hlower : ∀ x y, lower x y = if value y < value x then y else x) (x : α)
    (xs : List α) : IsFirstLowest value (x :: xs) (xs.foldl lower x) := by
  induction xs using List.reverseRecOn with
  | nil => exact isFirstLowest_singleton x
  | append_singleton xs y ih =>
    rw [List.foldl_concat, hlower]
    exact ih.concat y

end

/-! ### The ceiling (06, R97, R101) -/

theorem gauge_eq_add_sub (x y : Nat) : gauge x y = x - y + (y - x) := by
  rw [gauge_eq]
  split <;> omega

theorem State.ceilingOf_isFirstLowest (s : State) (r next : CourseRecord) :
    IsFirstLowest Ceiling.value (⟨s.machine.vmax, .vmax⟩ :: s.ceilingCandidates r next) (s.ceilingOf r next) :=
  isFirstLowest_foldl (fun _ _ => rfl) _ _

/-- The speeds of the two moves of a bar whose lap pairs both records hold. -/
theorem State.barCandidates_of_laps (s : State) {r next : CourseRecord} {b : Nat} {lap lap' : BarLap}
    (hlap : r.lap b = some lap) (hlap' : next.lap b = some lap') : s.barCandidates r next b =
      [⟨moveSpeed s.machine (s.profile b) (s.machine.ovEnd - s.machine.ovStart)
          (lap.front - lap.back + (lap.back - lap.front)), .bar b .overlap⟩,
        ⟨moveSpeed s.machine (s.profile b) (s.machine.ulEnd - s.machine.ulStart)
          (lap.back - lap'.front + (lap'.front - lap.back)), .bar b .underlap⟩] := by
  simp only [State.barCandidates, hlap, hlap', List.map_cons, List.map_nil, moveGauge, gauge_eq_add_sub]
  rfl

/-- Settles O38: the candidates written out are those that the planner folds. -/
theorem ceilingIsTheLowestCandidate : Obligations.CeilingIsTheLowestCandidate := by
  intro s r next lap lap' hlaps m candidates
  have hcandidates : candidates = ⟨s.machine.vmax, .vmax⟩ :: s.ceilingCandidates r next := by
    refine congrArg (List.cons _) (congrArg₂ (· ++ ·) ?_ ?_)
    · cases r.cap <;> rfl
    · refine List.flatMap_congr fun b hb => ?_
      obtain ⟨hlap, hlap'⟩ := hlaps b hb
      exact (s.barCandidates_of_laps hlap hlap').symm
  rw [hcandidates]
  exact s.ceilingOf_isFirstLowest r next

/-! ### The permit (06, R105, R106) -/

theorem lowestTerm_isFirstLowest (terms : List PermitTerm) (tail : PermitTerm) :
    IsFirstLowest PermitTerm.value (terms ++ [tail]) (lowestTerm terms tail) := by
  cases terms with
  | nil => exact isFirstLowest_singleton tail
  | cons t ts => exact isFirstLowest_foldl (fun _ _ => rfl) t (ts ++ [tail])

/-- The term that a ceiling gives at place `j` (R105, R106). -/
def ceilingTerm (dmax j : Nat) (tag : Tag) (c : Ceiling) : PermitTerm := ⟨c.value + j * dmax, .ceiling j tag c.source⟩

/-- Every record but the last holds its ceiling (R103): `c j` at place `j`. -/
def HoldCeilings (r : CourseRecord) (rs : List CourseRecord) (c : Nat → Ceiling) : Prop :=
  ∀ j, j < rs.length → ∃ x : CourseRecord, (r :: rs)[j]? = some x ∧ x.ceiling = some (c j)

theorem HoldCeilings.head {r r' : CourseRecord} {rs : List CourseRecord} {c : Nat → Ceiling}
    (h : HoldCeilings r (r' :: rs) c) : r.ceiling = some (c 0) := by
  obtain ⟨x, hx, hceiling⟩ := h 0 (Nat.succ_pos _)
  obtain rfl : r = x := by simpa using hx
  exact hceiling

theorem HoldCeilings.tail {r r' : CourseRecord} {rs : List CourseRecord} {c : Nat → Ceiling}
    (h : HoldCeilings r (r' :: rs) c) : HoldCeilings r' rs fun j => c (j + 1) :=
  fun j hj => h (j + 1) (Nat.succ_lt_succ hj)

theorem ceilingTerms_cons {dmax k : Nat} {r r' : CourseRecord} {rs : List CourseRecord} {c : Ceiling}
    (h : r.ceiling = some c) :
    ceilingTerms dmax k (r :: r' :: rs) = ceilingTerm dmax k r.tag c :: ceilingTerms dmax (k + 1) (r' :: rs) := by
  rw [ceilingTerms, h]
  rfl

theorem HoldCeilings.ceilingTerms_length {dmax : Nat} : ∀ {rs : List CourseRecord} {k : Nat} {r : CourseRecord}
    {c : Nat → Ceiling}, HoldCeilings r rs c → (ceilingTerms dmax k (r :: rs)).length = rs.length
  | [], _, _, _, _ => rfl
  | _ :: _, _, _, _, h => by
    rw [ceilingTerms_cons h.head, List.length_cons, h.tail.ceilingTerms_length, List.length_cons]

/-- The term at place `j` is that of the ceiling at place `j`, with the tag of its record. -/
theorem HoldCeilings.ceilingTerms_getElem? {dmax : Nat} : ∀ {rs : List CourseRecord} {k : Nat} {r : CourseRecord}
    {c : Nat → Ceiling}, HoldCeilings r rs c → ∀ {j : Nat}, j < rs.length → ∃ x : CourseRecord, (r :: rs)[j]? = some x ∧
      (ceilingTerms dmax k (r :: rs))[j]? = some (ceilingTerm dmax (k + j) x.tag (c j))
  | _ :: _, _, r, _, h, 0, _ => ⟨r, rfl, by rw [ceilingTerms_cons h.head]; rfl⟩
  | _ :: _, k, _, _, h, j + 1, hj => by
    obtain ⟨x, hx, hterm⟩ := h.tail.ceilingTerms_getElem? (dmax := dmax) (k := k + 1) (Nat.lt_of_succ_lt_succ hj)
    refine ⟨x, hx, ?_⟩
    rw [ceilingTerms_cons h.head, List.getElem?_cons_succ, hterm, Nat.add_right_comm, Nat.add_assoc]

/-- The term of the number of records after current (R105, R106). -/
def tailTerm (dmax n : Nat) : PermitTerm := ⟨n * dmax, .tail n⟩

/-- Every term of the permit, in the order in which the first that is lowest names it (R106). -/
def permitTerms (dmax : Nat) (r : CourseRecord) (rs : List CourseRecord) : List PermitTerm :=
  ceilingTerms dmax 0 (r :: rs) ++ [tailTerm dmax rs.length]

theorem planOf_of_current {m : MachineRecord} {l : Lists} {r : CourseRecord} (h : l.current = some r) :
    ∃ t, IsFirstLowest PermitTerm.value (permitTerms m.dmax r l.after) t ∧ planOf m l = ⟨min t.value m.vmax, t.term⟩ := by
  refine ⟨lowestTerm (ceilingTerms m.dmax 0 (r :: l.after)) (tailTerm m.dmax l.after.length),
    lowestTerm_isFirstLowest .., ?_⟩
  simp only [planOf, h]
  rfl

section

variable {dmax : Nat} {r : CourseRecord} {rs : List CourseRecord} {c : Nat → Ceiling} (h : HoldCeilings r rs c)
include h

theorem HoldCeilings.permitTerms_ceiling {j : Nat} (hj : j < rs.length) : ∃ x : CourseRecord, (r :: rs)[j]? = some x ∧
    (permitTerms dmax r rs)[j]? = some (ceilingTerm dmax j x.tag (c j)) := by
  obtain ⟨x, hx, hterm⟩ := h.ceilingTerms_getElem? (dmax := dmax) (k := 0) hj
  have hplace : j < (ceilingTerms dmax 0 (r :: rs)).length := by rwa [h.ceilingTerms_length]
  exact ⟨x, hx, by rw [permitTerms, List.getElem?_append_left hplace, hterm, Nat.zero_add]⟩

theorem HoldCeilings.permitTerms_tail : (permitTerms dmax r rs)[rs.length]? = some (tailTerm dmax rs.length) := by
  have hlength : (ceilingTerms dmax 0 (r :: rs)).length = rs.length := h.ceilingTerms_length
  rw [permitTerms, List.getElem?_append_right hlength.le, hlength, Nat.sub_self, List.getElem?_cons_zero]

theorem HoldCeilings.permitTerms_length : (permitTerms dmax r rs).length = rs.length + 1 := by
  rw [permitTerms, List.length_append, h.ceilingTerms_length, List.length_singleton]

/-- The first lowest term lies below no term, and is the tail below every ceiling term or the first lowest ceiling term. -/
theorem HoldCeilings.firstLowest_cases {t : PermitTerm} (ht : IsFirstLowest PermitTerm.value (permitTerms dmax r rs) t) :
    t.value ≤ rs.length * dmax ∧ (∀ j, j < rs.length → t.value ≤ (c j).value + j * dmax) ∧
      ((t = tailTerm dmax rs.length ∧ ∀ j, j < rs.length → t.value < (c j).value + j * dmax) ∨
        ∃ (j : Nat) (x : CourseRecord), j < rs.length ∧ (r :: rs)[j]? = some x ∧ t = ceilingTerm dmax j x.tag (c j) ∧
          ∀ k, k < j → t.value < (c k).value + k * dmax) := by
  obtain ⟨i, hi, hlow⟩ := ht
  have hceilings : ∀ j, j < rs.length → t.value ≤ (c j).value + j * dmax ∧
      (j < i → t.value < (c j).value + j * dmax) := fun j hj => by
    obtain ⟨x, -, hterm⟩ := h.permitTerms_ceiling (dmax := dmax) hj
    exact hlow j _ hterm
  refine ⟨(hlow _ _ h.permitTerms_tail).1, fun j hj => (hceilings j hj).1, ?_⟩
  have hplace : i < rs.length + 1 := h.permitTerms_length ▸ (List.getElem?_eq_some_iff.mp hi).1
  obtain hplace | rfl := Nat.lt_succ_iff_lt_or_eq.mp hplace
  · obtain ⟨x, hx, hterm⟩ := h.permitTerms_ceiling (dmax := dmax) hplace
    have ht : t = ceilingTerm dmax i x.tag (c i) := Option.some.inj (hi.symm.trans hterm)
    exact .inr ⟨i, x, hplace, hx, ht, fun k hk => (hceilings k (hk.trans hplace)).2 hk⟩
  · have ht : t = tailTerm dmax rs.length := Option.some.inj (hi.symm.trans h.permitTerms_tail)
    exact .inl ⟨ht, fun j hj => (hceilings j hj).2 hj⟩

/-- A ceiling of at most Vmax at place 0, or no record after current, bounds every lowest term by Vmax (R105). -/
theorem HoldCeilings.firstLowest_le {t : PermitTerm} (ht : IsFirstLowest PermitTerm.value (permitTerms dmax r rs) t)
    {vmax : Nat} (hfirst : 0 < rs.length → (c 0).value ≤ vmax) : t.value ≤ vmax := by
  obtain ⟨htail, hceilings, -⟩ := h.firstLowest_cases ht
  rcases Nat.eq_zero_or_pos rs.length with hnone | hsome
  · exact htail.trans (by simp [hnone])
  · exact (hceilings 0 hsome).trans (by simpa using hfirst hsome)

end

/-- Settles O39: the first lowest term never exceeds Vmax, so that the permit is its value. -/
theorem permitIsTheLowestTerm : Obligations.PermitIsTheLowestTerm := by
  intro m l r c
  refine ⟨rfl, fun hcurrent (hceilings : HoldCeilings r l.after c) hfirst => ?_⟩
  obtain ⟨t, ht, hplan⟩ := planOf_of_current (m := m) hcurrent
  obtain ⟨htail, hterms, hnamed⟩ := hceilings.firstLowest_cases ht
  have hvmax : t.value ≤ m.vmax := hceilings.firstLowest_le ht hfirst
  simp only [hplan, Nat.min_eq_left hvmax]
  refine ⟨hvmax, htail, hterms, ?_⟩
  obtain ⟨rfl, hbelow⟩ | ⟨j, x, hj, hx, rfl, hbefore⟩ := hnamed
  · exact .inl ⟨rfl, rfl, hbelow⟩
  · exact .inr ⟨j, x, hj, hx, rfl, rfl, hbefore⟩

end Sys2Proof.Machine
end

section
/-! PROOF. The operations of the bar channels (07, R118 to R128; 08, R141 to R150), one rule for each: what a drive command is on a
quiet part, what an exchange does before it sends, and what its sending does. Later proofs about drive commands use these rules. -/

namespace Sys2Proof.Machine

/-! ### The drive commands on a quiet part (log 6, 7) -/

theorem exec_exchange {s : State} {b : Nat} (hq : s.Quiet) (hb : barExists b = true) :
    exec (.exchange b) s = .next (s.exchangeBar b) := by
  change s.onBar b _ = _
  rw [State.onBar, if_pos hb, State.goesOn, State.event_of_quiet hq]

theorem exchangeWhen_of_quiet {s : State} {b : Nat} (hq : s.Quiet) (hb : barExists b = true) (holds : State → Bool) :
    s.exchangeWhen b holds = .next (if holds s then s.exchangeBar b else s) := by
  rw [State.exchangeWhen, State.onBar, if_pos hb, State.goesOn, State.event_of_quiet hq]

theorem exec_statusFrame {s : State} (hq : s.Quiet) (line : DriveLine) (bytes : List Byte) :
    exec (.statusFrame line bytes) s = .next (s.receiveStatus line bytes) :=
  congrArg Host.Outcome.next (State.event_of_quiet hq _)

/-! ### One channel changed -/

section

variable {s : State} {b : Nat}

/-- The channel of a bar that exists stands in a table of 64. -/
theorem place_lt_of_barExists {n : Nat} (hb : barExists b = true) (hn : n = 64) : b - 1 < n := by
  simp only [barExists, Bool.and_eq_true, decide_eq_true_eq] at hb
  omega

theorem State.updChannel_updChannel (s : State) (b : Nat) (f g : Channel → Channel) :
    (s.updChannel b f).updChannel b g = s.updChannel b (g ∘ f) := by
  simp only [State.updChannel, List.modify_modify_eq]

/-- Changes that agree on the channel are one change. -/
theorem State.updChannel_congr {f g : Channel → Channel} (h : f (s.channel b) = g (s.channel b)) :
    s.updChannel b f = s.updChannel b g := by
  have hsame : s.channels.modify (b - 1) f = s.channels.modify (b - 1) g := by
    refine List.ext_getElem? fun i => ?_
    rw [List.getElem?_modify, List.getElem?_modify]
    by_cases hi : b - 1 = i
    · subst hi
      cases hc : s.channels[b - 1]? with
      | none => rfl
      | some c =>
        have hplace : s.channel b = c := by simp [State.channel, List.getD, hc]
        rw [hplace] at h
        simp [h]
    · simp [hi]
  rw [State.updChannel, State.updChannel, hsame]

/-- A change that its channel does not feel is none. -/
theorem State.updChannel_of_fixed {f : Channel → Channel} (h : f (s.channel b) = s.channel b) : s.updChannel b f = s := by
  rw [State.updChannel_congr (g := id) h, State.updChannel, List.modify_id]

/-- A channel changed is a channel put in the place of another. -/
theorem State.updChannel_eq_set (h : b - 1 < s.channels.length) (f : Channel → Channel) :
    s.updChannel b f = { s with channels := s.channels.set (b - 1) (f (s.channel b)) } := by
  have hset : s.channels.modify (b - 1) f = s.channels.set (b - 1) (f (s.channel b)) := by
    simp only [List.modify_eq_set_getElem?, List.getElem?_eq_getElem h, State.channel, List.getD, Option.getD_some]
    rfl
  rw [State.updChannel, hset]

end

/-! ### The beginning of an exchange (07, R118, R120) -/

/-- The exchange before is counted when it ended without a status (07, R120). -/
def judged (c : Channel) : Channel := if missedStatus c then { c with missed := min 4 (c.missed + 1) } else c

/-- A channel `k` with the count of missing statuses and the timers that an exchange of `c` begins with (07, R118, R120). -/
def Channel.countedAs (c k : Channel) : Channel :=
  { k with
    missed := if missedStatus c then min 4 (c.missed + 1) else c.missed
    enableTimer := c.enableTimer.map (· + 250), energizeTimer := c.energizeTimer.map (· + 250)
    holdTimer := c.holdTimer.map (· + 250), settleTimer := c.settleTimer.map (· + 250) }

theorem advanceTimers_judged (c : Channel) : advanceTimers (judged c) = c.countedAs c := by
  unfold judged Channel.countedAs
  split <;> rfl

/-- What an exchange begins with when its drive is not lost in it: the clock at its time, the count and the timers (07, R118). -/
def State.counting (s : State) (b : Nat) : State :=
  (s.advanceTo (s.channel b).exchangeAt).updChannel b fun _ => (s.channel b).countedAs (s.channel b)

theorem expiryOf_countedAs (m : MachineRecord) (c : Channel) : expiryOf m (c.countedAs c) = expiryOf m (advanceTimers c) := rfl

theorem State.judgeMissing_of_kept {s : State} {b : Nat} (hlost : reachesLost (s.channel b) = false) :
    s.judgeMissing b = s.updChannel b judged := by
  simp only [State.judgeMissing, hlost, Bool.false_eq_true, if_false]
  split
  next hm => exact State.updChannel_congr (by rw [judged, if_pos hm])
  next hm => rw [State.updChannel_of_fixed (by rw [judged, if_neg hm])]

/-- An exchange in which the drive is not lost begins with its count and its timers, and the timer that ends (07, R118). -/
theorem State.beginExchange_of_kept {s : State} {b : Nat} (hb : barExists b = true) (hs : s.channels.length = 64)
    (hlost : reachesLost (s.channel b) = false) : s.beginExchange b = (s.counting b).expire b (s.comingExpiry b) := by
  have hcounted : ((s.advanceTo (s.channel b).exchangeAt).judgeMissing b).updChannel b advanceTimers = s.counting b := by
    rw [State.judgeMissing_of_kept (by exact hlost), State.updChannel_updChannel, State.counting]
    exact State.updChannel_congr (advanceTimers_judged _)
  have hchannel : (s.counting b).channel b = (s.channel b).countedAs (s.channel b) :=
    State.channel_updChannel (place_lt_of_barExists hb hs) _
  have hexpiry : expiryOf s.machine ((s.channel b).countedAs (s.channel b)) = s.comingExpiry b := by
    rw [State.comingExpiry, if_neg (by simp [hlost]), expiryOf_countedAs]
  unfold State.beginExchange
  simp only [hcounted, hchannel]
  rw [← hexpiry]
  rfl

/-! ### The sending of an exchange (07, R115, R118) -/

/-- What the first sending of a move's target makes of its channel (07, R134; 08, R143, R149). -/
def arrivedChannel (m : MachineRecord) (c : Channel) : Arrival → Channel
  | .none => c
  | .jog => jogArrived c
  | .zero => zeroArrived m c
  | .alignment => alignArrived c

/-- The channel as its exchange sends it (07, R118). -/
def State.sentChannel (s : State) (b : Nat) (c : Channel) : Channel :=
  sent b s.now (nextSetpoint s.machine (s.profile b) c)

theorem State.exchangeBar_of_present {s : State} {b : Nat} (h : (s.channel b).state ≠ .absent) :
    s.exchangeBar b = (s.beginExchange b).send b := if_neg h

theorem State.exchangeBar_of_absent {s : State} {b : Nat} (h : (s.channel b).state = .absent) : s.exchangeBar b = s := if_pos h

theorem State.send_of_none {s : State} {b : Nat} (h : arrivalOf (s.channel b) = .none) :
    s.send b = s.updChannel b (s.sentChannel b) := by
  rw [State.send, h]
  rfl

@[simp] theorem State.send_run (s : State) (b : Nat) : (s.send b).run = s.run := by
  unfold State.send
  cases arrivalOf (s.channel b) <;> simp [State.arrive]

theorem State.channel_send {s : State} {b : Nat} (hb : barExists b = true) (hs : s.channels.length = 64) :
    (s.send b).channel b = arrivedChannel s.machine (s.sentChannel b (s.channel b)) (arrivalOf (s.channel b)) := by
  have hsent : (s.updChannel b (s.sentChannel b)).channel b = s.sentChannel b (s.channel b) :=
    State.channel_updChannel (place_lt_of_barExists hb hs) _
  have hplace : b - 1 < (s.updChannel b (s.sentChannel b)).channels.length := by
    simpa using place_lt_of_barExists hb hs
  change ((s.updChannel b (s.sentChannel b)).arrive b (arrivalOf (s.channel b))).channel b = _
  rw [← hsent]
  cases arrivalOf (s.channel b) with
  | none => rfl
  | jog | alignment => exact State.channel_updChannel hplace _
  | zero =>
    have hchannels : ((s.updChannel b (s.sentChannel b)).arrive b .zero).channels =
        ((s.updChannel b (s.sentChannel b)).updChannel b (zeroArrived s.machine)).channels := by
      simp [State.arrive]
    exact (State.channel_of_channels hchannels b).trans (State.channel_updChannel hplace _)

theorem movedSetpoint_countedAs (c k : Channel) : movedSetpoint (c.countedAs k) = c.countedAs (movedSetpoint k) := by
  unfold movedSetpoint Channel.countedAs
  dsimp only
  split <;> rfl

theorem homingSetpoint_countedAs (p : Profile) (c k : Channel) :
    homingSetpoint p (c.countedAs k) = c.countedAs (homingSetpoint p k) := by
  unfold homingSetpoint Channel.countedAs
  dsimp only
  split <;> rfl

theorem beginReferencing_countedAs (m : MachineRecord) (p : Profile) (c k : Channel) :
    beginReferencing m p (c.countedAs k) = c.countedAs (beginReferencing m p k) := by
  unfold beginReferencing Channel.countedAs
  dsimp only
  split <;> rfl

/-- The setpoint that an exchange sends does not look at the count and the timers that it begins with. -/
theorem nextSetpoint_countedAs (m : MachineRecord) (p : Profile) (c k : Channel) :
    nextSetpoint m p (c.countedAs k) = c.countedAs (nextSetpoint m p k) := by
  have hstate : (c.countedAs k).state = k.state := rfl
  have hphase : (c.countedAs k).phase = k.phase := rfl
  unfold nextSetpoint
  rw [hstate, hphase]
  split
  · exact movedSetpoint_countedAs c k
  · exact movedSetpoint_countedAs c k
  · split
    · rw [beginReferencing_countedAs, homingSetpoint_countedAs]
    · exact movedSetpoint_countedAs c k
    · exact homingSetpoint_countedAs p c k
  · rfl

theorem arrivalOf_countedAs (c k : Channel) : arrivalOf (c.countedAs k) = arrivalOf k := rfl

/-- An exchange that brings nothing about sends the setpoint of its channel's state, and all else stands but the clock
(07, R115, R118). -/
theorem State.exchangeBar_of_plain {s : State} {b : Nat} (hb : barExists b = true) (hs : s.channels.length = 64)
    (hpresent : (s.channel b).state ≠ .absent) (hlost : reachesLost (s.channel b) = false) (htimer : s.comingExpiry b = .none)
    (harrival : arrivalOf (s.channel b) = .none) :
    let c := s.channel b
    let now := max s.now c.exchangeAt
    s.exchangeBar b = { s with
      now := now
      channels := s.channels.set (b - 1) (sent b now (c.countedAs (nextSetpoint s.machine (s.profile b) c))) } := by
  intro c now
  have hcounting : (s.counting b).channel b = c.countedAs c := State.channel_updChannel (place_lt_of_barExists hb hs) _
  rw [State.exchangeBar_of_present hpresent, State.beginExchange_of_kept hb hs hlost, htimer]
  change (s.counting b).send b = _
  have hsetpoint : sent b now (nextSetpoint s.machine (s.profile b) (c.countedAs c)) =
      sent b now (c.countedAs (nextSetpoint s.machine (s.profile b) c)) := by rw [nextSetpoint_countedAs]
  rw [State.send_of_none (by rw [hcounting]; exact harrival), State.counting, State.updChannel_updChannel,
    State.updChannel_eq_set (s := s.advanceTo (s.channel b).exchangeAt) (place_lt_of_barExists hb hs)]
  exact congrArg (fun k => { s with now := now, channels := s.channels.set (b - 1) k }) hsetpoint

end Sys2Proof.Machine
end

section
/-! PROOF. The move law and the cam (07, R129, R130): the law rises from 0 to the distance, and the cam follows it inside the
windows and stands outside them. -/

namespace Sys2Proof.Machine

/-! ### The move law (07, R129) -/

section

variable {s u v w : Nat}

theorem lawDistance_first_half (h : 2 * u ≤ w) : lawDistance s u w = 2 * s * u ^ 2 / w ^ 2 := if_pos h

theorem lawDistance_second_half (h : w < 2 * u) : lawDistance s u w = s - 2 * s * (w - u) ^ 2 / w ^ 2 :=
  if_neg (Nat.not_le.mpr h)

theorem lawDistance_start (s w : Nat) : lawDistance s 0 w = 0 := by
  rw [lawDistance_first_half (Nat.zero_le w)]; simp

theorem lawDistance_end (hw : 0 < w) : lawDistance s w w = s := by
  rw [lawDistance_second_half (by omega)]; simp

/-- What is covered from the start to `u` and what is left to cover from a later `v` on are together at most the distance. -/
theorem law_halves_le (hw : 0 < w) (hu : 2 * u ≤ w) (hv : w ≤ 2 * v) :
    2 * s * u ^ 2 / w ^ 2 + 2 * s * (w - v) ^ 2 / w ^ 2 ≤ s := by
  have hleft : 2 * (w - v) ≤ w := by omega
  have hsquares : 2 * s * u ^ 2 + 2 * s * (w - v) ^ 2 ≤ s * w ^ 2 := by
    have hfirst : (2 * u) ^ 2 ≤ w ^ 2 := Nat.pow_le_pow_left hu 2
    have hsecond : (2 * (w - v)) ^ 2 ≤ w ^ 2 := Nat.pow_le_pow_left hleft 2
    have hboth : 2 * (u ^ 2 + (w - v) ^ 2) ≤ w ^ 2 := by rw [mul_pow] at hfirst hsecond; omega
    calc 2 * s * u ^ 2 + 2 * s * (w - v) ^ 2 = s * (2 * (u ^ 2 + (w - v) ^ 2)) := by ring
      _ ≤ s * w ^ 2 := Nat.mul_le_mul_left s hboth
  calc 2 * s * u ^ 2 / w ^ 2 + 2 * s * (w - v) ^ 2 / w ^ 2
      ≤ (2 * s * u ^ 2 + 2 * s * (w - v) ^ 2) / w ^ 2 := Nat.div_add_div_le_add_div
    _ ≤ s * w ^ 2 / w ^ 2 := Nat.div_le_div_right hsquares
    _ = s := Nat.mul_div_cancel s (Nat.pow_pos hw)

/-- The law never falls: within a half by the square that it takes there, and from one half to the other by `law_halves_le`. -/
theorem lawDistance_mono (hw : 0 < w) (huv : u ≤ v) : lawDistance s u w ≤ lawDistance s v w := by
  rcases Nat.lt_or_ge w (2 * u) with hu | hu
  · rw [lawDistance_second_half hu, lawDistance_second_half (by omega)]
    have hsquare : (w - v) ^ 2 ≤ (w - u) ^ 2 := Nat.pow_le_pow_left (by omega) 2
    exact Nat.sub_le_sub_left (Nat.div_le_div_right (Nat.mul_le_mul_left _ hsquare)) s
  · rw [lawDistance_first_half hu]
    rcases Nat.lt_or_ge w (2 * v) with hv | hv
    · rw [lawDistance_second_half hv]
      exact Nat.le_sub_of_add_le (law_halves_le hw hu hv.le)
    · rw [lawDistance_first_half hv]
      exact Nat.div_le_div_right (Nat.mul_le_mul_left _ (Nat.pow_le_pow_left huv 2))

theorem lawDistance_le (hw : 0 < w) (hu : u ≤ w) : lawDistance s u w ≤ s :=
  (lawDistance_mono hw hu).trans (lawDistance_end hw).le

end

/-! ### The cam (07, R130) -/

section

variable {m : MachineRecord} {e : Nat}

theorem zoneOf_beforeOverlap (h : e < m.ovStart) : zoneOf m e = .beforeOverlap := if_pos h

theorem zoneOf_overlap (hlow : m.ovStart ≤ e) (hhigh : e < m.ovEnd) : zoneOf m e = .overlap := by
  rw [zoneOf, if_neg (by omega), if_pos hhigh]

theorem zoneOf_dwell (hov : m.ovStart < m.ovEnd) (hlow : m.ovEnd ≤ e) (hhigh : e < m.ulStart) : zoneOf m e = .dwell := by
  rw [zoneOf, if_neg (by omega), if_neg (by omega), if_pos hhigh]

theorem zoneOf_underlap (hov : m.ovStart < m.ovEnd) (hdwell : m.ovEnd < m.ulStart) (hlow : m.ulStart ≤ e) (hhigh : e < m.ulEnd) :
    zoneOf m e = .underlap := by
  rw [zoneOf, if_neg (by omega), if_neg (by omega), if_neg (by omega), if_pos hhigh]

theorem zoneOf_afterUnderlap (hov : m.ovStart < m.ovEnd) (hdwell : m.ovEnd < m.ulStart) (hul : m.ulStart < m.ulEnd)
    (h : m.ulEnd ≤ e) : zoneOf m e = .afterUnderlap := by
  rw [zoneOf, if_neg (by omega), if_neg (by omega), if_neg (by omega), if_neg (by omega)]

end

/-- Settles O40: the law by its halves, and the cam by its zones. -/
theorem camFollowsTheMoveLaw : Obligations.CamFollowsTheMoveLaw := by
  refine ⟨fun s u w hu hw => ⟨rfl, lawDistance_start s w, lawDistance_end hw, lawDistance_le hw hu,
    fun v huv _ => lawDistance_mono hw huv⟩, fun m e a b next hov hdwell hul => ⟨?_, ?_, ?_, ?_, ?_⟩⟩
  · intro h
    rw [cam, zoneOf_beforeOverlap h]
  · intro hlow hhigh
    rw [cam, zoneOf_dwell hov hlow hhigh]
  · intro h
    rw [cam, zoneOf_afterUnderlap hov hdwell hul h]
  · intro hlow hhigh
    rw [cam, zoneOf_overlap hlow hhigh]
    rfl
  · intro hlow hhigh
    rw [cam, zoneOf_underlap hov hdwell hlow hhigh]
    rfl

end Sys2Proof.Machine
end

section
/-! PROOF. EXCHANGE (07, R115, R118, R120, R134; 08, R141 to R143, R149): the setpoint that each state sends. -/

namespace Sys2Proof.Machine

/-! ### The setpoint of each state (07, R115) -/

/-- The channel's state sends the setpoint of a timed move (07, R134; 08, R143, R149). -/
def Channel.Timed (c : Channel) : Prop :=
  c.state = .jogging ∨ c.state = .aligning ∨ (c.state = .referencing ∧ c.phase = some .zero)

/-- The states in which an exchange sends the setpoint that the channel holds (07, R115). -/
def ChannelState.stands : ChannelState → Bool
  | .off | .energizing | .idle | .idleReduced | .following | .faulted => true
  | .absent | .jogging | .referencing | .aligning => false

section

variable {m : MachineRecord} {p : Profile} {c : Channel}

theorem Channel.present_of_stands (h : c.state.stands = true) : c.state ≠ .absent := by
  intro habsent
  simp [habsent, ChannelState.stands] at h

theorem Channel.not_timed_of_stands (h : c.state.stands = true) : ¬c.Timed := by
  rintro (hs | hs | ⟨hs, -⟩) <;> simp [hs, ChannelState.stands] at h

theorem nextSetpoint_of_stands (h : c.state.stands = true) : nextSetpoint m p c = c := by
  unfold nextSetpoint
  split
  next hs => simp [hs, ChannelState.stands] at h
  next hs => simp [hs, ChannelState.stands] at h
  next hs => simp [hs, ChannelState.stands] at h
  next => rfl

theorem nextSetpoint_of_timed (h : c.Timed) : nextSetpoint m p c = movedSetpoint c := by
  unfold nextSetpoint
  rcases h with h | h | ⟨h, hphase⟩
  · rw [h]
  · rw [h]
  · rw [h, hphase]

theorem nextSetpoint_of_starting (h : c.state = .referencing) (hphase : c.phase = none) :
    nextSetpoint m p c = homingSetpoint p (beginReferencing m p c) := by
  unfold nextSetpoint
  rw [h, hphase]

theorem beginReferencing_of_active {d : DriveStatus} (hlast : c.last = some d) (hswitch : d.switch = true) :
    beginReferencing m p c = { c with phase := some .leave, limit := leaveLimit m c.setpoint, limitSent := 0 } := by
  simp [beginReferencing, hlast, hswitch]

/-- A referencing without a status reads the switch as inactive (log 26). -/
theorem beginReferencing_of_inactive (hswitch : ∀ d, c.last = some d → d.switch = false) :
    beginReferencing m p c = beginSearch p c := by
  have hinactive : (c.last.map DriveStatus.switch).getD false = false := by
    cases hlast : c.last with
    | none => rfl
    | some d => exact hswitch d hlast
  rw [beginReferencing, hinactive, if_neg Bool.false_ne_true]

theorem nextSetpoint_of_leave (h : c.state = .referencing) (hphase : c.phase = some .leave) :
    nextSetpoint m p c = stepTo c (min c.limit (c.setpoint + homingStep p)) := by
  unfold nextSetpoint homingSetpoint
  rw [h, hphase]

theorem nextSetpoint_of_search (h : c.state = .referencing) (hphase : c.phase = some .search) :
    nextSetpoint m p c = stepTo c (max c.limit (c.setpoint - homingStep p)) := by
  unfold nextSetpoint homingSetpoint
  rw [h, hphase]

theorem movedSetpoint_of_none (h : c.move = none) : movedSetpoint c = c := by rw [movedSetpoint, h]

theorem movedSetpoint_of_some {mv : TimedMove} (h : c.move = some mv) :
    movedSetpoint c = { c with setpoint := mv.place, move := some { mv with sent := mv.sent + 1 } } := by
  rw [movedSetpoint, h]

theorem TimedMove.place_before {mv : TimedMove} (h : 250 * mv.sent < mv.time) :
    mv.place = lawPlace mv.start mv.target (250 * mv.sent) mv.time := by
  have hsent : mv.sent * Config.exchangeTime = 250 * mv.sent := Nat.mul_comm ..
  rw [TimedMove.place, hsent, if_neg (Nat.not_le.mpr h)]

/-! ### The target that an exchange first sends (07, R134; log 12) -/

theorem arrivalOf_of_not_timed (h : ¬c.Timed) : arrivalOf c = .none := by
  unfold arrivalOf
  split
  · rfl
  · split
    · split
      next hj => exact absurd (.inl hj) h
      next ha => exact absurd (.inr (.inl ha)) h
      next hr hphase => exact absurd (.inr (.inr ⟨hr, hphase⟩)) h
      next => rfl
    · rfl

theorem arrivalOf_of_no_move (h : c.move = none) : arrivalOf c = .none := by rw [arrivalOf, h]

theorem arrivalOf_before {mv : TimedMove} (hm : c.move = some mv) (h : 250 * mv.sent < mv.time) : arrivalOf c = .none := by
  have hsent : mv.sent * Config.exchangeTime = 250 * mv.sent := Nat.mul_comm ..
  have harrives : mv.arrives = false := by simpa [TimedMove.arrives, hsent] using h
  simp [arrivalOf, hm, harrives]

/-! ### The timer that ends (07, R126, R128; 08, R150) -/

/-- A timer ends in the exchange that begins now when it reaches its time with the 250 us of that exchange (07, R118). -/
def EndsNow (timer : Option Nat) (ms : Nat) : Prop := ∃ e, timer = some e ∧ 1000 * ms ≤ e + 250

theorem timerEnds_map_iff (timer : Option Nat) (ms : Nat) :
    timerEnds (timer.map (· + Config.exchangeTime)) ms = true ↔ EndsNow timer ms := by
  cases timer <;> simp [timerEnds, EndsNow, Config.exchangeTime]

theorem reachesLost_eq_false_iff : reachesLost c = false ↔ ¬((c.exchanging = true ∧ c.taken = false) ∧ c.missed = 3) := by
  simp [reachesLost, missedStatus]

theorem State.comingExpiry_of_kept {s : State} {b : Nat} (h : reachesLost (s.channel b) = false) :
    s.comingExpiry b = expiryOf s.machine (advanceTimers (s.channel b)) := by simp [State.comingExpiry, h]

theorem expiry_energizing_enable (h : c.state = .energizing) (he : EndsNow c.enableTimer m.enableTimeout) :
    expiryOf m (advanceTimers c) = .enable := by
  simp only [expiryOf, advanceTimers, h, (timerEnds_map_iff _ _).mpr he, if_true]

theorem expiry_energizing_energize (h : c.state = .energizing) (he : ¬EndsNow c.enableTimer m.enableTimeout)
    (hz : EndsNow c.energizeTimer m.energizeTime) : expiryOf m (advanceTimers c) = .energize := by
  rw [← timerEnds_map_iff] at he
  simp only [expiryOf, advanceTimers, h, he, (timerEnds_map_iff _ _).mpr hz, if_true, Bool.false_eq_true, if_false]

theorem expiry_energizing_none (h : c.state = .energizing) (he : ¬EndsNow c.enableTimer m.enableTimeout)
    (hz : ¬EndsNow c.energizeTimer m.energizeTime) : expiryOf m (advanceTimers c) = .none := by
  rw [← timerEnds_map_iff] at he hz
  simp only [expiryOf, advanceTimers, h, he, hz, Bool.false_eq_true, if_false]

theorem expiry_idle_hold (h : c.state = .idle) (hd : m.holdDelay ≠ 0) (he : EndsNow c.holdTimer m.holdDelay) :
    expiryOf m (advanceTimers c) = .hold := by
  simp [expiryOf, advanceTimers, h, hd, (timerEnds_map_iff _ _).mpr he]

theorem expiry_idle_none (h : c.state = .idle) (he : m.holdDelay = 0 ∨ ¬EndsNow c.holdTimer m.holdDelay) :
    expiryOf m (advanceTimers c) = .none := by
  rw [← timerEnds_map_iff] at he
  rcases he with he | he <;> simp [expiryOf, advanceTimers, h, he]

theorem expiry_jogging_settle (h : c.state = .jogging) (he : EndsNow c.settleTimer m.settleTimeout) :
    expiryOf m (advanceTimers c) = .settle := by
  simp [expiryOf, advanceTimers, h, (timerEnds_map_iff _ _).mpr he]

theorem expiry_jogging_none (h : c.state = .jogging) (he : ¬EndsNow c.settleTimer m.settleTimeout) :
    expiryOf m (advanceTimers c) = .none := by
  rw [← timerEnds_map_iff] at he
  simp [expiryOf, advanceTimers, h, he]

theorem expiry_untimed (he : c.state ≠ .energizing) (hi : c.state ≠ .idle) (hj : c.state ≠ .jogging) :
    expiryOf m (advanceTimers c) = .none := by
  unfold expiryOf advanceTimers
  dsimp only
  split
  · contradiction
  · contradiction
  · contradiction
  · rfl

end

/-! ### The frame that goes out (07, R118; 10, R189) -/

theorem setpointFrame_of_present {st : ChannelState} (h : st ≠ .absent) (b : Nat) (x : Int) :
    setpointFrame b st.enabled (st == .idleReduced) x =
      let flags := (if st = .off ∨ st = .faulted then 0 else 1) + (if st = .idleReduced then 2 else 0)
      let body := [byteOf b, byteOf flags] ++ signedBytes x
      [0xC3] ++ body ++ beBytes 2 (crc body).toNat := by
  have hflags : bitAt 0 st.enabled + bitAt 1 (st == .idleReduced) =
      (if st = .off ∨ st = .faulted then 0 else 1) + (if st = .idleReduced then 2 else 0) := by
    cases st with
    | absent => contradiction
    | _ => rfl
  rw [setpointFrame, hflags]
  rfl

/-! ### The statement -/

/-- The channel as an exchange of `c` sends the setpoint, the phase, the limit and the move of `k` (07, R118). -/
def Channel.sentAs (c k : Channel) (b now : Nat) : Channel :=
  { k with
    missed := if c.exchanging = true ∧ c.taken = false then min 4 (c.missed + 1) else c.missed
    enableTimer := c.enableTimer.map (· + 250), energizeTimer := c.energizeTimer.map (· + 250)
    holdTimer := c.holdTimer.map (· + 250), settleTimer := c.settleTimer.map (· + 250)
    sentOld := c.sentNew, sentNew := k.setpoint, exchanging := true, taken := false, exchangeAt := now + 250
    frame :=
      let flags := (if c.state = .off ∨ c.state = .faulted then 0 else 1) + (if c.state = .idleReduced then 2 else 0)
      let body := [byteOf b, byteOf flags] ++ signedBytes k.setpoint
      [0xC3] ++ body ++ beBytes 2 (crc body).toNat }

theorem sent_countedAs {c k : Channel} (hpresent : c.state ≠ .absent) (hstate : k.state = c.state) (hsent : k.sentNew = c.sentNew)
    (b now : Nat) : sent b now (c.countedAs k) = c.sentAs k b now := by
  have hframe : (sent b now (c.countedAs k)).frame = setpointFrame b c.state.enabled (c.state == .idleReduced) k.setpoint := by
    rw [← hstate]
    rfl
  rw [setpointFrame_of_present hpresent] at hframe
  have hmissed : (sent b now (c.countedAs k)).missed =
      if c.exchanging = true ∧ c.taken = false then min 4 (c.missed + 1) else c.missed := by
    simp [sent, Channel.countedAs, missedStatus]
  rw [Channel.sentAs, ← hframe, ← hmissed, ← hsent]
  rfl

/-- An exchange that brings nothing about, as the statement writes its channel. -/
theorem exec_exchange_sends {s : State} {b : Nat} {k : Channel} (hq : s.Quiet) (hb : barExists b = true) (hs : s.Sized)
    (hpresent : (s.channel b).state ≠ .absent) (hlost : reachesLost (s.channel b) = false)
    (htimer : expiryOf s.machine (advanceTimers (s.channel b)) = .none) (harrival : arrivalOf (s.channel b) = .none)
    (hk : nextSetpoint s.machine (s.profile b) (s.channel b) = k) (hstate : k.state = (s.channel b).state)
    (hsent : k.sentNew = (s.channel b).sentNew) :
    let now := max s.now (s.channel b).exchangeAt
    exec (.exchange b) s = .next { s with
      now := now, channels := s.channels.set (b - 1) ((s.channel b).sentAs k b now) } := by
  intro now
  rw [exec_exchange hq hb, State.exchangeBar_of_plain hb hs.1 hpresent hlost (by rw [State.comingExpiry_of_kept hlost, htimer])
    harrival, hk, sent_countedAs hpresent hstate hsent]

/-- Settles O41: each state's setpoint, sent by an exchange that brings nothing about. -/
theorem exchangeSendsTheSetpoint : Obligations.ExchangeSendsTheSetpoint := by
  refine ⟨fun b s hq hb hs => ⟨fun habsent => ?_, fun hheld htaken htimer => ?_⟩, fun b s hq hb hs => ?_⟩
  · rw [exec_exchange hq hb, State.exchangeBar_of_absent habsent]
  · have hstill : missedStatus (s.channel b) = false := by
      cases hx : (s.channel b).exchanging with
      | false => simp [missedStatus, hx]
      | true => simp [missedStatus, hx, htaken hx]
    have hlost : reachesLost (s.channel b) = false := by simp [reachesLost, hstill]
    have hstands : (s.channel b).state.stands = true := by
      rcases hheld with h | h | h | h | h | h <;> simp [h, ChannelState.stands]
    have hmissed : ¬((s.channel b).exchanging = true ∧ (s.channel b).taken = false) := by simpa [missedStatus] using hstill
    rw [exec_exchange_sends hq hb hs (Channel.present_of_stands hstands) hlost
      (by rw [← State.comingExpiry_of_kept hlost, htimer]) (arrivalOf_of_not_timed (Channel.not_timed_of_stands hstands))
      (nextSetpoint_of_stands hstands) rfl rfl]
    simp only [Channel.sentAs, if_neg hmissed]
  · intro c m p now missing ends sends step above below up down timed hkept
    have hlost : reachesLost c = false := reachesLost_eq_false_iff.mpr hkept
    have hsends : ∀ k : Channel, c.state ≠ .absent → expiryOf m (advanceTimers c) = .none → arrivalOf c = .none →
        nextSetpoint m p c = k → k.state = c.state → k.sentNew = c.sentNew → sends k :=
      fun k hpresent htimer harrival hk hstate hsent =>
        exec_exchange_sends hq hb hs hpresent hlost htimer harrival hk hstate hsent
    have hstands (h : c.state.stands = true) (htimer : expiryOf m (advanceTimers c) = .none) : sends c :=
      hsends c (Channel.present_of_stands h) htimer (arrivalOf_of_not_timed (Channel.not_timed_of_stands h))
        (nextSetpoint_of_stands h) rfl rfl
    refine ⟨fun hheld => ?_, fun hidle htimer => ?_, fun henergizing henable henergize => ?_, fun htimed => ?_,
      fun hreferencing => ?_⟩
    · have hstate : c.state.stands = true := by rcases hheld with h | h | h | h <;> simp [h, ChannelState.stands]
      refine hstands hstate (expiry_untimed ?_ ?_ ?_)
      all_goals rintro h; simp [h] at hheld
    · exact hstands (by simp [hidle, ChannelState.stands]) (expiry_idle_none hidle htimer)
    · exact hstands (by simp [henergizing, ChannelState.stands]) (expiry_energizing_none henergizing henable henergize)
    · have hTimed : c.Timed := htimed.imp_left And.left
      have hpresent : c.state ≠ .absent := by rintro h; simp [Channel.Timed, h] at hTimed
      have htimer : expiryOf m (advanceTimers c) = .none := by
        rcases htimed with ⟨hj, hsettle⟩ | ha | ⟨hr, -⟩
        · exact expiry_jogging_none hj hsettle
        · exact expiry_untimed (by simp [ha]) (by simp [ha]) (by simp [ha])
        · exact expiry_untimed (by simp [hr]) (by simp [hr]) (by simp [hr])
      refine ⟨fun hmove => ?_, fun mv hmove hbefore => ?_⟩
      · exact hsends c hpresent htimer (arrivalOf_of_no_move hmove)
          (by rw [nextSetpoint_of_timed hTimed, movedSetpoint_of_none hmove]) rfl rfl
      · exact hsends _ hpresent htimer (arrivalOf_before hmove hbefore)
          (by rw [nextSetpoint_of_timed hTimed, movedSetpoint_of_some hmove, TimedMove.place_before hbefore]; rfl) rfl rfl
    · have hpresent : c.state ≠ .absent := by simp [hreferencing]
      have htimer : expiryOf m (advanceTimers c) = .none :=
        expiry_untimed (by simp [hreferencing]) (by simp [hreferencing]) (by simp [hreferencing])
      have hphases : ∀ k : Channel, c.phase ≠ some .zero → nextSetpoint m p c = k → k.state = c.state →
          k.sentNew = c.sentNew → sends k := fun k hphase =>
        hsends k hpresent htimer (arrivalOf_of_not_timed (by simp [Channel.Timed, hreferencing, hphase]))
      refine ⟨fun hphase => ⟨fun d hlast hswitch => ?_, fun hswitch => ?_⟩, fun hphase => ?_, fun hphase => ?_⟩
      · exact hphases _ (by simp [hphase])
          (by rw [nextSetpoint_of_starting hreferencing hphase, beginReferencing_of_active hlast hswitch]; rfl) rfl rfl
      · exact hphases _ (by simp [hphase])
          (by rw [nextSetpoint_of_starting hreferencing hphase, beginReferencing_of_inactive hswitch]; rfl) rfl rfl
      · exact hphases _ (by simp [hphase]) (nextSetpoint_of_leave hreferencing hphase) rfl rfl
      · exact hphases _ (by simp [hphase]) (nextSetpoint_of_search hreferencing hphase) rfl rfl

end Sys2Proof.Machine
end

section
/-! PROOF. The fault of a channel (07, R124) and DRIVE_LOST (07, R120): what a fault makes of its channel, of the run controller and
of the notices, and the exchange at which the fourth status is missing. -/

namespace Sys2Proof.Machine

/-! ### The ends of jogs and referencings at one channel (08, R147, R151) -/

theorem State.notifyJogDone_of_none {s : State} {b : Nat} (h : (s.channel b).jog = none) (o : JogOutcome) :
    s.notifyJogDone b o = s := by rw [State.notifyJogDone, h]

theorem State.notifyJogDone_of_some {s : State} {b : Nat} {j : Jog} {d : DriveStatus} (hj : (s.channel b).jog = some j)
    (hd : (s.channel b).last = some d) (o : JogOutcome) :
    s.notifyJogDone b o = s.notify (.jogDone j.target (heldSigned (d.actual - j.coord)) j.time) (jogCode o) b := by
  rw [State.notifyJogDone, hj]
  simp only [hd]

theorem State.finishBar_of_not_remaining {s : State} {b : Nat} (h : ∀ r, s.referencing = some r → inSet r.remaining b = false)
    (o : RefOutcome) : s.finishBar b o = s := by
  unfold State.finishBar
  split
  · rfl
  next r hr => rw [if_neg (by simp [h r hr])]

/-- The bar of a referencing finishes: with the last bar the record ends, and otherwise its outcome is entered (08, R144, R147). -/
theorem State.finishBar_of_remaining {s : State} {b : Nat} {r : Referencing} (hr : s.referencing = some r)
    (hb : inSet r.remaining b = true) (o : RefOutcome) :
    let rest := r.remaining &&& ~~~(barBit b)
    let found := if o = .found then r.found ||| barBit b else r.found
    let outcomes := r.outcomes ||| refFlag o
    s.finishBar b o =
      if rest = 0 then { s with
        referencing := none
        link := s.link.offer ⟨.referenceDone found, outcomes, (barsOf r.selected).length, s.currentTag, s.tracker.angle⟩ }
      else { s with referencing := some { r with remaining := rest, found := found, outcomes := outcomes } } := by
  simp only [State.finishBar, hr, hb, if_true]
  rfl

/-! ### The report of a channel fault (09, R160, R161, R166, R167) -/

/-- A report leaves a channel that neither follows nor aligns. -/
theorem State.report_channel_of_kept {s : State} {b : Nat} (hb : barExists b = true) (hf : (s.channel b).state ≠ .following)
    (ha : endAlignment s.machine (s.channel b) = s.channel b) (cause : Cause) (detail bar : Nat) :
    (s.report cause detail bar).channel b = s.channel b := by
  unfold State.report State.reportWith
  split
  · exact State.haltOn_channel hb hf _ _ _ _ _
  · rfl
  all_goals
    split
    · exact (State.channel_mapChannels_of_initial hb rfl).trans ha
    · split
      · rfl
      · rfl

/-- A cause does nothing in STANDBY and HOLD without a request toward RUN. -/
theorem State.report_of_not_toward_run {s : State} (h : s.run.state = .standby ∨ s.run.state = .hold)
    (hrequested : s.run.requested ≠ some .run) (cause : Cause) (detail bar : Nat) : s.report cause detail bar = s := by
  have haligning : s.aligningToRun = false := by simp [State.aligningToRun, hrequested]
  have hwaiting : s.waitingForRun = false := by simp [State.waitingForRun, hrequested]
  rcases h with h | h <;> simp [State.report, State.reportWith, h, haligning, hwaiting]

/-! ### The fault (07, R124) -/

/-- The state as the run controller hears of a fault: the jog reported, the channel FAULTED, its referencing finished (07, R124). -/
def State.struck (s : State) (b : Nat) : State := ((s.notifyJogDone b .fault).updChannel b toFaulted).finishBar b .barFault

section

variable {s : State} {b : Nat} (cause : Cause) (detail error : Nat) (compared : Int)

theorem State.faultChannel_eq : s.faultChannel b cause detail error compared =
    if s.run.state = .standby ∨ s.run.state = .hold then
      ((s.struck b).report cause detail b).notifyBarFault b cause (s.channel b).state detail error compared
    else (s.struck b).report cause detail b := by
  simp only [State.faultChannel, Bool.or_eq_true, decide_eq_true_eq]
  rfl

theorem State.channel_struck (hb : barExists b = true) (hs : s.channels.length = 64) :
    (s.struck b).channel b = toFaulted (s.channel b) := by
  have hchannels : (s.struck b).channels = (s.updChannel b toFaulted).channels := by simp [State.struck]
  rw [State.channel_of_channels hchannels, State.channel_updChannel (place_lt_of_barExists hb hs)]

theorem State.channel_faultChannel (hb : barExists b = true) (hs : s.channels.length = 64) :
    (s.faultChannel b cause detail error compared).channel b = toFaulted (s.channel b) := by
  have hstruck := State.channel_struck hb hs
  have hreport : ((s.struck b).report cause detail b).channel b = toFaulted (s.channel b) := by
    rw [State.report_channel_of_kept hb (by simp [hstruck, toFaulted]) (by simp [hstruck, endAlignment, toFaulted]), hstruck]
  rw [State.faultChannel_eq]
  split <;> exact hreport

/-- A fault in RUN halts the machine (09, R167). -/
theorem State.faultChannel_run (h : s.run.state = .run) :
    (s.faultChannel b cause detail error compared).run = { s.run with
      state := .halt, published := 0
      halt := some ⟨cause, detail, b, s.currentTag, s.tracker.angle, s.tracker.speed⟩ } := by
  have hrun : (s.struck b).run = s.run := by simp [State.struck]
  have htag : (s.struck b).currentTag = s.currentTag := by simp [State.struck, State.currentTag]
  have htracker : (s.struck b).tracker = s.tracker := by simp [State.struck]
  rw [State.faultChannel_eq, if_neg (by simp [h]), State.report, State.reportWith_of_run (by rw [hrun, h]), State.haltOn_run,
    hrun, htag, htracker]

/-- A fault in STANDBY or HOLD, of a channel with no jog and no referencing and with no request toward RUN, is the FAULTED channel
and its BAR_FAULT (07, R124). -/
theorem State.faultChannel_still (h : s.run.state = .standby ∨ s.run.state = .hold) (hrequested : s.run.requested ≠ some .run)
    (hjog : (s.channel b).jog = none) (href : ∀ r, s.referencing = some r → inSet r.remaining b = false) :
    s.faultChannel b cause detail error compared =
      (s.updChannel b toFaulted).notifyBarFault b cause (s.channel b).state detail error compared := by
  have hstruck : s.struck b = s.updChannel b toFaulted := by
    rw [State.struck, State.notifyJogDone_of_none hjog, State.finishBar_of_not_remaining (s := s.updChannel b toFaulted) href]
  rw [State.faultChannel_eq, if_pos h, hstruck, State.report_of_not_toward_run (s := s.updChannel b toFaulted) h hrequested]

end

/-- A change of view changes the link alone (07, R123). -/
theorem State.notifyView_frame (s : State) (b : Nat) (before : DriveView) :
    s.notifyView b before = { s with link := (s.notifyView b before).link } := by
  unfold State.notifyView
  dsimp only
  split
  · rfl
  · split <;> rfl

/-! ### The fourth missing status (07, R120) -/

/-- The channel of a drive that is lost (07, R120). -/
def lostChannel (c : Channel) : Channel := { c with missed := 4, view := .silent }

section

variable {s : State} {b : Nat} (hb : barExists b = true) (hs : s.channels.length = 64)
  (hlost : reachesLost (s.channel b) = true)
include hb hs hlost

/-- An enabled channel is FAULTED before its exchange sends. -/
theorem State.beginExchange_lost_enabled (henabled : (s.channel b).state.enabled = true) :
    (s.beginExchange b).channel b = toFaulted (lostChannel (s.channel b)) ∧
    (s.run.state = .run → (s.beginExchange b).run = { s.run with
      state := .halt, published := 0
      halt := some ⟨.driveLost, 0, b, s.currentTag, s.tracker.angle, s.tracker.speed⟩ }) := by
  obtain ⟨u, hu⟩ : ∃ u, u = ((s.advanceTo (s.channel b).exchangeAt).updChannel b lostChannel).draw := ⟨_, rfl⟩
  have hchannel : u.channel b = lostChannel (s.channel b) := by
    rw [hu]
    exact State.channel_updChannel (s := s.advanceTo (s.channel b).exchangeAt) (place_lt_of_barExists hb hs) _
  have hlength : u.channels.length = 64 := by simpa [hu] using hs
  obtain ⟨v, hv⟩ : ∃ v, v = u.faultChannel b .driveLost 0 0 (Config.openValue s.draws) := ⟨_, rfl⟩
  have hfaulted : (v.updChannel b advanceTimers).channel b = toFaulted (lostChannel (s.channel b)) := by
    rw [State.channel_updChannel (by rw [hv, State.faultChannel_channels_length]; exact place_lt_of_barExists hb hlength), hv,
      State.channel_faultChannel _ _ _ _ hb hlength, hchannel]
    rfl
  have hjudged : (s.advanceTo (s.channel b).exchangeAt).judgeMissing b = v := by
    rw [State.judgeMissing, if_pos (by exact hlost), if_pos (by exact henabled), hv, hu]
    rfl
  have hbegin : s.beginExchange b = v.updChannel b advanceTimers := by
    rw [State.beginExchange, hjudged, hfaulted]
    rfl
  rw [hbegin]
  refine ⟨hfaulted, fun hrun => ?_⟩
  rw [State.updChannel_run, hv, State.faultChannel_run _ _ _ _ (by simpa [hu] using hrun), hu]
  rfl

/-- A channel in OFF or FAULTED keeps its state. -/
theorem State.beginExchange_lost_disabled (hdisabled : (s.channel b).state.enabled = false) :
    (s.beginExchange b).channel b = advanceTimers (lostChannel (s.channel b)) := by
  obtain ⟨u, hu⟩ : ∃ u, u = (s.advanceTo (s.channel b).exchangeAt).updChannel b lostChannel := ⟨_, rfl⟩
  have hchannel : u.channel b = lostChannel (s.channel b) := by
    rw [hu]
    exact State.channel_updChannel (s := s.advanceTo (s.channel b).exchangeAt) (place_lt_of_barExists hb hs) _
  have hlength : u.channels.length = 64 := by simpa [hu] using hs
  obtain ⟨v, hv⟩ : ∃ v, v = u.notifyView b (s.channel b).view := ⟨_, rfl⟩
  have hchannels : v.channels = u.channels := by rw [hv, State.notifyView_frame]
  have hjudged : (s.advanceTo (s.channel b).exchangeAt).judgeMissing b = v := by
    have hsame : (s.advanceTo (s.channel b).exchangeAt).channel b = s.channel b := rfl
    simp only [State.judgeMissing, hsame, hlost, hdisabled, Bool.false_eq_true, if_true, if_false]
    rw [hv, hu]
    rfl
  have hadvanced : (v.updChannel b advanceTimers).channel b = advanceTimers (lostChannel (s.channel b)) := by
    rw [State.channel_updChannel (by rw [hchannels]; exact place_lt_of_barExists hb hlength), State.channel_of_channels hchannels,
      hchannel]
  have hother (st : ChannelState) (h : st.enabled = true) : (s.channel b).state ≠ st := by
    rintro rfl
    exact Bool.false_ne_true (hdisabled.symm.trans h)
  have htimer : expiryOf (v.updChannel b advanceTimers).machine (advanceTimers (lostChannel (s.channel b))) = .none :=
    expiry_untimed (c := lostChannel (s.channel b)) (m := v.machine)
      (hother .energizing rfl) (hother .idle rfl) (hother .jogging rfl)
  have hbegin : s.beginExchange b = v.updChannel b advanceTimers := by
    rw [State.beginExchange, hjudged, hadvanced, htimer]
    rfl
  rw [hbegin, hadvanced]

end

section

variable {s : State} {b : Nat} {k : Channel} (hpresent : (s.channel b).state ≠ .absent)
  (hk : (s.beginExchange b).channel b = k) (hstands : k.state.stands = true)
include hpresent hk hstands

/-- An exchange sends a channel that stands as it is after the beginning. -/
theorem State.exchangeBar_of_stands :
    s.exchangeBar b = (s.beginExchange b).updChannel b (sent b (s.beginExchange b).now) := by
  rw [State.exchangeBar_of_present hpresent,
    State.send_of_none (by rw [hk]; exact arrivalOf_of_not_timed (Channel.not_timed_of_stands hstands))]
  exact State.updChannel_congr (by rw [hk, State.sentChannel, nextSetpoint_of_stands hstands])

theorem State.channel_exchangeBar_of_stands (hb : barExists b = true) (hs : s.channels.length = 64) :
    (s.exchangeBar b).channel b = sent b (s.beginExchange b).now k := by
  rw [State.exchangeBar_of_stands hpresent hk hstands,
    State.channel_updChannel (place_lt_of_barExists hb (by simpa [State.beginExchange] using hs)), hk]

end

/-- Settles O42: the beginning of the exchange loses the drive, and its sending adds nothing to it. -/
theorem fourthMissingStatusLosesTheDrive : Obligations.FourthMissingStatusLosesTheDrive := by
  intro b s hq hb hs hpresent c
  have hexec : exec (.driveLost b) s = .next (if reachesLost c then s.exchangeBar b else s) := exchangeWhen_of_quiet hq hb _
  refine ⟨fun hexchanging htaken hmissed => ?_, fun hkept => ?_⟩
  · have hlost : reachesLost c = true := by simp [reachesLost, missedStatus, hexchanging, htaken, hmissed]
    refine ⟨s.exchangeBar b, by rw [hexec, if_pos hlost], ?_⟩
    cases henabled : c.state.enabled with
    | true =>
      obtain ⟨hchannel, hrun⟩ := State.beginExchange_lost_enabled hb hs.1 hlost henabled
      rw [State.channel_exchangeBar_of_stands hpresent hchannel rfl hb hs.1]
      refine ⟨rfl, rfl, fun _ => ⟨rfl, rfl, rfl, rfl, fun h => ?_⟩, fun h => absurd h.symm Bool.false_ne_true⟩
      rw [State.exchangeBar_of_present hpresent, State.send_run, hrun h]
      exact ⟨rfl, rfl⟩
    | false =>
      have hchannel := State.beginExchange_lost_disabled hb hs.1 hlost henabled
      have hstands : c.state.stands = true := by
        cases hstate : c.state with
        | absent => contradiction
        | off | faulted => rfl
        | _ => simp [hstate, ChannelState.enabled] at henabled
      rw [State.channel_exchangeBar_of_stands hpresent hchannel hstands hb hs.1]
      exact ⟨rfl, rfl, (absurd · Bool.false_ne_true), fun _ => rfl⟩
  · have hlost : reachesLost c = false := by
      refine reachesLost_eq_false_iff.mpr fun ⟨⟨hexchanging, htaken⟩, hmissed⟩ => ?_
      rcases hkept with h | h | h
      · exact h hmissed
      · exact Bool.false_ne_true (htaken.symm.trans h)
      · exact Bool.false_ne_true (h.symm.trans hexchanging)
    rw [hexec, hlost, if_neg Bool.false_ne_true]

end Sys2Proof.Machine
end

section
/-! PROOF. The timers that end (07, R126 to R128; 08, R150) and the targets that are reached (07, R134; 08, R143, R144, R149), each
as the whole exchange that brings it about (log 6). -/

namespace Sys2Proof.Machine

/-! ### What an exchange makes of its channel -/

/-- A fault that no comparison raised makes its channel FAULTED, and halts in RUN (07, R124; 09, R167). -/
theorem State.faultUncompared_spec {s : State} {b : Nat} (hb : barExists b = true) (hs : s.channels.length = 64) (cause : Cause)
    (detail : Nat) :
    (s.faultUncompared b cause detail).channel b = toFaulted (s.channel b) ∧
    (s.run.state = .run → (s.faultUncompared b cause detail).run = { s.run with
      state := .halt, published := 0
      halt := some ⟨cause, detail, b, s.currentTag, s.tracker.angle, s.tracker.speed⟩ }) :=
  ⟨State.channel_faultChannel (s := s.draw) cause detail 0 _ hb hs, fun h => State.faultChannel_run (s := s.draw) cause detail 0 _ h⟩

/-- The setpoint that an exchange sends changes no more of its channel than the setpoint, the referencing's phase and limit, and the
count of a timed move. -/
theorem nextSetpoint_frame (m : MachineRecord) (p : Profile) (c : Channel) :
    let k := nextSetpoint m p c
    k = { c with phase := k.phase, setpoint := k.setpoint, limit := k.limit, limitSent := k.limitSent, move := k.move } := by
  have hmoved : ∀ c : Channel, movedSetpoint c = { c with
      setpoint := (movedSetpoint c).setpoint, move := (movedSetpoint c).move } := fun c => by
    unfold movedSetpoint; split <;> rfl
  have hhoming : ∀ c : Channel, homingSetpoint p c = { c with
      setpoint := (homingSetpoint p c).setpoint, limitSent := (homingSetpoint p c).limitSent } := fun c => by
    unfold homingSetpoint; split <;> rfl
  have hbegin : ∀ c : Channel, beginReferencing m p c = { c with
      phase := (beginReferencing m p c).phase, limit := (beginReferencing m p c).limit, limitSent := 0 } := fun c => by
    unfold beginReferencing; split <;> rfl
  unfold nextSetpoint
  split
  · rw [hmoved]
  · rw [hmoved]
  · split
    · rw [hhoming, hbegin]
    · rw [hmoved]
    · rw [hhoming]
  · rfl

theorem arrivalOf_ne_zero {c : Channel} (h : ¬(c.state = .referencing ∧ c.phase = some .zero)) : arrivalOf c ≠ .zero := by
  unfold arrivalOf
  split
  · simp
  · split
    · split
      next => simp
      next => simp
      next hstate hphase => exact absurd ⟨hstate, hphase⟩ h
      next => simp
    · simp

/-- A sending that does not complete a zero move leaves the state, the energize timer and the pending move. -/
theorem State.channel_send_keeps {s : State} {b : Nat} (hb : barExists b = true) (hs : s.channels.length = 64)
    (h : arrivalOf (s.channel b) ≠ .zero) :
    ((s.send b).channel b).state = (s.channel b).state ∧ ((s.send b).channel b).energizeTimer = (s.channel b).energizeTimer ∧
      ((s.send b).channel b).pendingMove = (s.channel b).pendingMove := by
  rw [State.channel_send hb hs, State.sentChannel, nextSetpoint_frame]
  cases ha : arrivalOf (s.channel b) with
  | none | jog | alignment => exact ⟨rfl, rfl, rfl⟩
  | zero => exact absurd ha h

/-! ### The rows of the timers (07, R126 to R128; 08, R150) -/

section

variable {s : State} {b : Nat} (hq : s.Quiet) (hb : barExists b = true)
include hq hb

theorem exec_enableTimeout (h : s.comingExpiry b = .enable) : exec (.enableTimeout b) s = .next (s.exchangeBar b) :=
  (exchangeWhen_of_quiet hq hb _).trans (by rw [h]; rfl)

theorem exec_energizeTimeEnd (h : s.comingExpiry b = .energize) : exec (.energizeTimeEnd b) s = .next (s.exchangeBar b) :=
  (exchangeWhen_of_quiet hq hb _).trans (by rw [h]; rfl)

theorem exec_holdDelayExpiry (h : s.comingExpiry b = .hold) : exec (.holdDelayExpiry b) s = .next (s.exchangeBar b) :=
  (exchangeWhen_of_quiet hq hb _).trans (by rw [h]; rfl)

theorem exec_settleTimeout (h : s.comingExpiry b = .settle) : exec (.settleTimeout b) s = .next (s.exchangeBar b) :=
  (exchangeWhen_of_quiet hq hb _).trans (by rw [h]; rfl)

end

section

variable {s : State} {b : Nat} (hb : barExists b = true) (hs : s.channels.length = 64)
include hb hs

theorem State.channel_counting : (s.counting b).channel b = (s.channel b).countedAs (s.channel b) :=
  State.channel_updChannel (place_lt_of_barExists hb hs) _

variable (hlost : reachesLost (s.channel b) = false)
include hlost

/-- The energize time that ends leads to IDLE, or to the pending move (07, R127). -/
theorem State.beginExchange_of_energize (h : s.comingExpiry b = .energize) :
    (s.beginExchange b).channel b = energized s.machine ((s.channel b).countedAs (s.channel b)) := by
  rw [State.beginExchange_of_kept hb hs hlost, h]
  refine (State.channel_updChannel ?_ _).trans (by rw [State.channel_counting hb hs]; rfl)
  simpa [State.counting] using place_lt_of_barExists hb hs

variable (hpresent : (s.channel b).state ≠ .absent)
include hpresent

theorem State.exchangeBar_of_enable (h : s.comingExpiry b = .enable) :
    (∃ now, (s.exchangeBar b).channel b = sent b now (toFaulted ((s.channel b).countedAs (s.channel b)))) ∧
    (s.run.state = .run → (s.exchangeBar b).run = { s.run with
      state := .halt, published := 0
      halt := some ⟨.driveFault, 0x10, b, s.currentTag, s.tracker.angle, s.tracker.speed⟩ }) := by
  have hbegin : s.beginExchange b = (s.counting b).faultUncompared b .driveFault notReadyDetail := by
    rw [State.beginExchange_of_kept hb hs hlost, h]
    rfl
  obtain ⟨hchannel, hrun⟩ := State.faultUncompared_spec (s := s.counting b) hb (by simpa [State.counting] using hs) .driveFault
    notReadyDetail
  rw [← hbegin] at hchannel hrun
  rw [State.channel_counting hb hs] at hchannel
  refine ⟨⟨_, State.channel_exchangeBar_of_stands hpresent hchannel rfl hb hs⟩, fun hstate => ?_⟩
  rw [State.exchangeBar_of_present hpresent, State.send_run, hrun hstate]
  rfl

theorem State.exchangeBar_of_energize (h : s.comingExpiry b = .energize) :
    let t := (s.exchangeBar b).channel b
    t.state = (match (s.channel b).pendingMove with
      | none => .idle | some .jog => .jogging | some .referencing => .referencing | some .alignment => .aligning) ∧
    t.energizeTimer = none ∧ t.pendingMove = none := by
  have hbegin := State.beginExchange_of_energize hb hs hlost h
  have hlength : (s.beginExchange b).channels.length = 64 := by simpa [State.beginExchange] using hs
  have hpending : ((s.channel b).countedAs (s.channel b)).pendingMove = (s.channel b).pendingMove := rfl
  have hkeeps := State.channel_send_keeps hb hlength
  rw [State.exchangeBar_of_present hpresent]
  rw [hbegin, energized, hpending] at hkeeps
  cases hmove : (s.channel b).pendingMove with
  | none =>
    simp only [hmove] at hkeeps
    exact hkeeps (arrivalOf_ne_zero (by simp [toIdle]))
  | some p =>
    cases p with
    | jog | referencing | alignment =>
      simp only [hmove] at hkeeps
      exact hkeeps (arrivalOf_ne_zero (by simp))

/-- Without a pending move the channel rests with its setpoint, and its hold timer starts unless the delay is 0 (07, R127, R128). -/
theorem State.exchangeBar_of_energize_idle (h : s.comingExpiry b = .energize) (hmove : (s.channel b).pendingMove = none) :
    ((s.exchangeBar b).channel b).setpoint = (s.channel b).setpoint ∧
    ((s.exchangeBar b).channel b).holdTimer = if s.machine.holdDelay = 0 then none else some 0 := by
  have hbegin : (s.beginExchange b).channel b = toIdle s.machine ((s.channel b).countedAs (s.channel b)) := by
    rw [State.beginExchange_of_energize hb hs hlost h, energized]
    simp only [Channel.countedAs, hmove]
  rw [State.channel_exchangeBar_of_stands hpresent hbegin rfl hb hs]
  exact ⟨rfl, rfl⟩

/-- The hold delay that ends reduces the current and holds the setpoint (07, R128). -/
theorem State.exchangeBar_of_hold (h : s.comingExpiry b = .hold) :
    ∃ now, (s.exchangeBar b).channel b = sent b now (reduced ((s.channel b).countedAs (s.channel b))) := by
  have hbegin : (s.beginExchange b).channel b = reduced ((s.channel b).countedAs (s.channel b)) := by
    rw [State.beginExchange_of_kept hb hs hlost, h]
    refine (State.channel_updChannel ?_ _).trans (by rw [State.channel_counting hb hs])
    simpa [State.counting] using place_lt_of_barExists hb hs
  exact ⟨_, State.channel_exchangeBar_of_stands hpresent hbegin rfl hb hs⟩

/-- The settle time that ends, ends the jog with NOT_IN_POSITION (08, R150, R151). -/
theorem State.exchangeBar_of_settle (h : s.comingExpiry b = .settle) {j : Jog} {d : DriveStatus} (hj : (s.channel b).jog = some j)
    (hd : (s.channel b).last = some d) :
    (∃ now, (s.exchangeBar b).channel b = sent b now (toIdle s.machine ((s.channel b).countedAs (s.channel b)))) ∧
    (s.exchangeBar b).link = s.link.offer
      ⟨.jogDone j.target (heldSigned (d.actual - j.coord)) j.time, 0x01, b, s.currentTag, s.tracker.angle⟩ := by
  have hcounting := State.channel_counting hb hs
  have hdone : (s.counting b).notifyJogDone b .notInPosition =
      (s.counting b).notify (.jogDone j.target (heldSigned (d.actual - j.coord)) j.time) 0x01 b :=
    State.notifyJogDone_of_some (by rw [hcounting]; exact hj) (by rw [hcounting]; exact hd) _
  have hbegin : s.beginExchange b = ((s.counting b).notify (.jogDone j.target (heldSigned (d.actual - j.coord)) j.time) 0x01 b).updChannel
      b (toIdle s.machine) := by
    rw [State.beginExchange_of_kept hb hs hlost, h, State.expire, State.endJog, if_pos (by rw [hcounting, Channel.countedAs, hj]; rfl),
      hdone]
    rfl
  have hchannel : (s.beginExchange b).channel b = toIdle s.machine ((s.channel b).countedAs (s.channel b)) := by
    rw [hbegin]
    refine (State.channel_updChannel ?_ _).trans (congrArg _ hcounting)
    simpa [State.counting] using place_lt_of_barExists hb hs
  refine ⟨⟨_, State.channel_exchangeBar_of_stands hpresent hchannel rfl hb hs⟩, ?_⟩
  rw [State.exchangeBar_of_stands hpresent hchannel rfl, hbegin]
  rfl

end

/-- Settles O43: each timer that ends in the coming exchange, by what that exchange makes of its channel. -/
theorem timersEndAtTheirExchange : Obligations.TimersEndAtTheirExchange := by
  intro b s hq hb hs hmissed c
  have hlost : reachesLost c = false := reachesLost_eq_false_iff.mpr fun ⟨_, h⟩ => absurd (h ▸ hmissed) (Nat.lt_irrefl 3)
  have hexpiry : s.comingExpiry b = expiryOf s.machine (advanceTimers c) := State.comingExpiry_of_kept hlost
  refine ⟨fun e hstate htimer hend => ?_, fun e hstate henable htimer hend => ?_, fun e hstate hdelay htimer hend => ?_,
    fun e j d hstate htimer hend hjog hlast => ?_⟩
  all_goals have hpresent : c.state ≠ .absent := by simp [hstate]
  · have hcoming : s.comingExpiry b = .enable := by rw [hexpiry, expiry_energizing_enable hstate ⟨e, htimer, hend⟩]
    obtain ⟨⟨now, hchannel⟩, hrun⟩ := State.exchangeBar_of_enable hb hs.1 hlost hpresent hcoming
    refine ⟨_, exec_enableTimeout hq hb hcoming, by rw [hchannel]; rfl, by rw [hchannel]; rfl, fun h => ?_⟩
    exact ⟨_, by rw [hrun h], rfl, rfl, rfl⟩
  · have hcoming : s.comingExpiry b = .energize := by
      rw [hexpiry, expiry_energizing_energize hstate (by rintro ⟨x, hx, -⟩; simp [c, hx] at henable) ⟨e, htimer, hend⟩]
    obtain ⟨hnext, htimers, hpending⟩ := State.exchangeBar_of_energize hb hs.1 hlost hpresent hcoming
    exact ⟨_, exec_energizeTimeEnd hq hb hcoming, hnext, htimers, hpending,
      State.exchangeBar_of_energize_idle hb hs.1 hlost hpresent hcoming⟩
  · have hcoming : s.comingExpiry b = .hold := by rw [hexpiry, expiry_idle_hold hstate hdelay ⟨e, htimer, hend⟩]
    obtain ⟨now, hchannel⟩ := State.exchangeBar_of_hold hb hs.1 hlost hpresent hcoming
    refine ⟨_, exec_holdDelayExpiry hq hb hcoming, ?_⟩
    rw [hchannel]
    exact ⟨rfl, rfl, rfl, rfl⟩
  · have hcoming : s.comingExpiry b = .settle := by rw [hexpiry, expiry_jogging_settle hstate ⟨e, htimer, hend⟩]
    obtain ⟨⟨now, hchannel⟩, hlink⟩ := State.exchangeBar_of_settle hb hs.1 hlost hpresent hcoming hjog hlast
    refine ⟨_, exec_settleTimeout hq hb hcoming, ?_⟩
    rw [hchannel]
    exact ⟨rfl, rfl, rfl, rfl, hlink⟩

/-! ### The rows of the targets (07, R134; 08, R143, R149) -/

section

variable {c : Channel} {mv : TimedMove}

theorem TimedMove.arrives_of_le (h : mv.time ≤ mv.sent * 250) : mv.arrives = true := decide_eq_true h

theorem TimedMove.place_of_le (h : mv.time ≤ mv.sent * 250) : mv.place = mv.target := if_pos h

variable (hmove : c.move = some mv) (harrives : mv.time ≤ mv.sent * 250)
include hmove harrives

theorem arrivalOf_jog (h : c.state = .jogging) : arrivalOf c = .jog := by
  simp [arrivalOf, hmove, TimedMove.arrives_of_le harrives, h]

theorem arrivalOf_alignment (h : c.state = .aligning) : arrivalOf c = .alignment := by
  simp [arrivalOf, hmove, TimedMove.arrives_of_le harrives, h]

theorem arrivalOf_zero (h : c.state = .referencing) (hphase : c.phase = some .zero) : arrivalOf c = .zero := by
  simp [arrivalOf, hmove, TimedMove.arrives_of_le harrives, h, hphase]

/-- The exchange that first sends a target sends it. -/
theorem nextSetpoint_target (m : MachineRecord) (p : Profile) (h : c.Timed) :
    nextSetpoint m p c = { c with setpoint := mv.target, move := some { mv with sent := mv.sent + 1 } } := by
  rw [nextSetpoint_of_timed h, movedSetpoint_of_some hmove, TimedMove.place_of_le harrives]

end

section

variable {s : State} {b : Nat} (hb : barExists b = true) (hs : s.channels.length = 64)
  (hlost : reachesLost (s.channel b) = false) (htimer : expiryOf s.machine (advanceTimers (s.channel b)) = .none)
include hb hs hlost htimer

theorem State.beginExchange_of_no_expiry : s.beginExchange b = s.counting b := by
  rw [State.beginExchange_of_kept hb hs hlost, State.comingExpiry_of_kept hlost, htimer]
  rfl

theorem State.comingArrival_eq : s.comingArrival b = arrivalOf (s.channel b) := by
  rw [State.comingArrival, State.beginExchange_of_no_expiry hb hs hlost htimer, State.channel_counting hb hs, arrivalOf_countedAs]

theorem State.exchangeBar_of_arrival (hpresent : (s.channel b).state ≠ .absent) : s.exchangeBar b =
    ((s.counting b).updChannel b ((s.counting b).sentChannel b)).arrive b (arrivalOf (s.channel b)) := by
  rw [State.exchangeBar_of_present hpresent, State.beginExchange_of_no_expiry hb hs hlost htimer, State.send,
    State.channel_counting hb hs, arrivalOf_countedAs]
  rfl

/-- The channel of a move whose target is first sent: the target sent, and then what its arrival brings (07, R118, R134). -/
theorem State.channel_exchangeBar_of_target {mv : TimedMove} (hmove : (s.channel b).move = some mv)
    (harrives : mv.time ≤ mv.sent * 250) (htimed : (s.channel b).Timed) : ∃ now move,
    (s.exchangeBar b).channel b = arrivedChannel s.machine
      (sent b now ((s.channel b).countedAs { s.channel b with setpoint := mv.target, move := move })) (arrivalOf (s.channel b)) := by
  have hpresent : (s.channel b).state ≠ .absent := by rintro h; simp [Channel.Timed, h] at htimed
  refine ⟨(s.counting b).now, some { mv with sent := mv.sent + 1 }, ?_⟩
  rw [State.exchangeBar_of_present hpresent, State.beginExchange_of_no_expiry hb hs hlost htimer,
    State.channel_send hb (by simpa [State.counting] using hs), State.channel_counting hb hs, arrivalOf_countedAs,
    State.sentChannel, nextSetpoint_countedAs, nextSetpoint_target hmove harrives _ _ htimed]
  rfl

end

section

variable {s : State} {b : Nat} (hq : s.Quiet) (hb : barExists b = true)
include hq hb

theorem exec_jogTargetReached (h : s.comingArrival b = .jog) : exec (.jogTargetReached b) s = .next (s.exchangeBar b) :=
  (exchangeWhen_of_quiet hq hb _).trans (by rw [h]; rfl)

theorem exec_zeroMoveComplete (h : s.comingArrival b = .zero) : exec (.zeroMoveComplete b) s = .next (s.exchangeBar b) :=
  (exchangeWhen_of_quiet hq hb _).trans (by rw [h]; rfl)

theorem exec_aligned (h : s.comingArrival b = .alignment) : exec (.aligned b) s = .next (s.exchangeBar b) :=
  (exchangeWhen_of_quiet hq hb _).trans (by rw [h]; rfl)

end

/-- Settles O44: each move by its arrival, and the referencing by the finish of its bar. -/
theorem targetsAreReached : Obligations.TargetsAreReached := by
  intro b mv s hq hb hs hmissed hmove harrives c
  have hlost : reachesLost c = false := reachesLost_eq_false_iff.mpr fun ⟨_, h⟩ => absurd (h ▸ hmissed) (Nat.lt_irrefl 3)
  refine ⟨fun j hstate hjog hsettle => ?_, fun r hstate hphase hr hremaining => ?_, fun hstate => ?_⟩
  · have htimer : expiryOf s.machine (advanceTimers c) = .none :=
      expiry_jogging_none hstate (by rintro ⟨e, he, -⟩; simp [c, he] at hsettle)
    have harrival : arrivalOf c = .jog := arrivalOf_jog hmove harrives hstate
    obtain ⟨now, move, hchannel⟩ :=
      State.channel_exchangeBar_of_target hb hs.1 hlost htimer hmove harrives (.inl hstate)
    refine ⟨_, exec_jogTargetReached hq hb ((State.comingArrival_eq hb hs.1 hlost htimer).trans harrival), ?_⟩
    rw [hchannel, harrival]
    refine ⟨hstate, rfl, rfl, ?_, rfl⟩
    change (c.jog.map Jog.target).getD c.lastTarget = j.target
    rw [hjog]
    rfl
  · have htimer : expiryOf s.machine (advanceTimers c) = .none :=
      expiry_untimed (by simp [hstate]) (by simp [hstate]) (by simp [hstate])
    have harrival : arrivalOf c = .zero := arrivalOf_zero hmove harrives hstate hphase
    obtain ⟨now, move, hchannel⟩ :=
      State.channel_exchangeBar_of_target hb hs.1 hlost htimer hmove harrives (.inr (.inr ⟨hstate, hphase⟩))
    refine ⟨_, exec_zeroMoveComplete hq hb ((State.comingArrival_eq hb hs.1 hlost htimer).trans harrival), ?_⟩
    rw [hchannel, harrival]
    refine ⟨rfl, rfl, rfl, rfl, rfl, rfl, ?_⟩
    rw [State.exchangeBar_of_arrival hb hs.1 hlost htimer (by simp [c, hstate]), harrival, State.arrive,
      State.finishBar_of_remaining (by exact hr) hremaining]
    have hflag : r.outcomes ||| refFlag .found = r.outcomes := Nat.or_zero _
    simp only [hflag, if_true]
    split
    · exact ⟨rfl, rfl⟩
    · rfl
  · have htimer : expiryOf s.machine (advanceTimers c) = .none :=
      expiry_untimed (by simp [hstate]) (by simp [hstate]) (by simp [hstate])
    have harrival : arrivalOf c = .alignment := arrivalOf_alignment hmove harrives hstate
    obtain ⟨now, move, hchannel⟩ :=
      State.channel_exchangeBar_of_target hb hs.1 hlost htimer hmove harrives (.inr (.inl hstate))
    refine ⟨_, exec_aligned hq hb ((State.comingArrival_eq hb hs.1 hlost htimer).trans harrival), ?_⟩
    rw [hchannel, harrival]
    exact ⟨hstate, rfl, rfl, rfl⟩

end Sys2Proof.Machine
end

section
/-! PROOF. STATUS_FRAME (07, R115, R119, R121 to R124, R126; 08, R141, R142, R144, R150; 10, R189): the frame read back, and the
status taken by the channel's state. -/

namespace Sys2Proof.Machine

/-! ### The frame of a status (10, R189) -/

theorem beNat_append (xs ys : List Byte) : beNat (xs ++ ys) = beNat xs * 256 ^ ys.length + beNat ys := by
  induction ys using List.reverseRecOn with
  | nil => simp [beNat]
  | append_singleton ys y ih =>
    have hlast : ∀ zs : List Byte, beNat (zs ++ [y]) = 256 * beNat zs + y.toNat := fun zs => by
      simp [beNat, List.foldl_append]
    rw [← List.append_assoc, hlast, hlast, ih, List.length_append, List.length_singleton, Nat.pow_succ]
    ring

/-- Bytes give back the number that they were made of, as far as it fits. -/
theorem beNat_beBytes (k n : Nat) : beNat (beBytes k n) = n % 256 ^ k := by
  induction k with
  | zero => simp [beBytes, beNat, Nat.mod_one]
  | succ k ih =>
    have hcons : beBytes (k + 1) n = [byteOf (n / 256 ^ k)] ++ beBytes k n := rfl
    have hhead : beNat [byteOf (n / 256 ^ k)] = n / 256 ^ k % 256 := by simp [beNat, byteOf]
    rw [hcons, beNat_append, hhead, ih, beBytes_length, Nat.pow_succ, Nat.mod_mul]
    ring

/-- A drive coordinate comes back from its three bytes. -/
theorem signedOf_signedBytes {x : Int} (hlow : -8388608 ≤ x) (hhigh : x ≤ 8388607) : signedOf (signedBytes x) = x := by
  have hvalue : BitVec.ofNat 24 (beNat (signedBytes x)) = BitVec.ofInt 24 x := by
    have hfits : (BitVec.ofInt 24 x).toNat % 256 ^ 3 = (BitVec.ofInt 24 x).toNat := Nat.mod_eq_of_lt (BitVec.ofInt 24 x).isLt
    rw [signedBytes, beNat_beBytes, hfits, BitVec.ofNat_toNat, BitVec.setWidth_eq]
  rw [signedOf, hvalue]
  exact BitVec.toInt_ofInt_eq_self (by decide) hlow (by omega)

/-- The flag byte of a status holds ready, the switch and the fault code side by side. -/
theorem statusFlags_read : ∀ (ready switch : Bool) (fault : Fin 16),
    let flags := byteOf (bitAt 0 ready + bitAt 1 switch + 16 * fault)
    flags.getLsbD 0 = ready ∧ flags.getLsbD 1 = switch ∧ flags.toNat / 16 = fault := by decide

theorem statusOf_flags (ready switch : Bool) {fault : Nat} (h : fault < 16) (position : List Byte) :
    statusOf (byteOf (bitAt 0 ready + bitAt 1 switch + 16 * fault)) position = ⟨ready, switch, fault, signedOf position⟩ := by
  obtain ⟨hready, hswitch, hfault⟩ := statusFlags_read ready switch ⟨fault, h⟩
  rw [statusOf, hready, hswitch, hfault]

theorem parseStatus_statusBytes {b : Nat} {d : DriveStatus} (hb : barExists b = true) (hfault : d.fault < 16)
    (hlow : -8388608 ≤ d.actual) (hhigh : d.actual ≤ 8388607) : parseStatus (statusBytes b d) = some (b, d) := by
  have hread : parseStatus (statusBytes b d) =
      some ((byteOf b).toNat, statusOf (byteOf (bitAt 0 d.ready + bitAt 1 d.switch + 16 * d.fault)) (signedBytes d.actual)) := by
    simp [statusBytes, parseStatus, signedBytes, beBytes, crcBytes]
  have hplace : b ≤ 64 := by simp only [barExists, Bool.and_eq_true, decide_eq_true_eq] at hb; exact hb.2
  have haddress : (byteOf b).toNat = b := by simp only [byteOf, BitVec.toNat_ofNat]; omega
  rw [hread, haddress, statusOf_flags _ _ hfault, signedOf_signedBytes hlow hhigh]

/-- A frame with a bad CRC is no status. -/
theorem parseStatus_of_badCrc {b : Nat} {d : DriveStatus} {c1 c0 : Byte}
    (h : [c1, c0] ≠ crcBytes ((statusBytes b d).tail.take 5)) : parseStatus ((statusBytes b d).take 6 ++ [c1, c0]) = none := by
  have hbad : ¬[c1, c0] = crcBytes [byteOf b, byteOf (bitAt 0 d.ready + bitAt 1 d.switch + 16 * d.fault),
      byteOf ((BitVec.ofInt 24 d.actual).toNat / 256 ^ 2), byteOf ((BitVec.ofInt 24 d.actual).toNat / 256 ^ 1),
      byteOf ((BitVec.ofInt 24 d.actual).toNat / 256 ^ 0)] := h
  exact if_neg fun hgood => hbad (of_decide_eq_true (Bool.and_eq_true_iff.mp hgood).2)

end Sys2Proof.Machine
end

section
/-! PROOF. The status taken by its channel (07, R115, R119, R121 to R124, R126; 08, R141, R142, R144, R150), one rule for each
branch, and the change of view (07, R123). -/

namespace Sys2Proof.Machine

/-! ### A channel put in its place -/

/-- The channel `k` in the place of bar `b`. -/
def State.put (s : State) (b : Nat) (k : Channel) : State := { s with channels := s.channels.set (b - 1) k }

/-- The channel that has taken a status, before its state acts on it (07, R119). -/
def Channel.taking (c : Channel) (d : DriveStatus) : Channel :=
  { c with missed := 0, taken := true, last := some d, view := if d.ready then .ready else .notReady }

/-- The bars of a table of 64 that exist. -/
def State.Holds (s : State) (b : Nat) : Prop := barExists b = true ∧ s.channels.length = 64

section

variable {s : State} {b : Nat} (h : s.Holds b)
include h

theorem State.Holds.place_lt : b - 1 < s.channels.length := place_lt_of_barExists h.1 h.2

theorem State.updChannel_eq_put (f : Channel → Channel) : s.updChannel b f = s.put b (f (s.channel b)) :=
  State.updChannel_eq_set h.place_lt f

theorem State.holds_put (k : Channel) : (s.put b k).Holds b := ⟨h.1, by simpa [State.put] using h.2⟩

theorem State.channel_put (k : Channel) : (s.put b k).channel b = k := by
  simp [State.put, State.channel, List.getD, h.place_lt]

theorem State.updChannel_put (k : Channel) (f : Channel → Channel) : (s.put b k).updChannel b f = s.put b (f k) := by
  rw [State.updChannel_eq_put (State.holds_put h k), State.channel_put h]
  simp [State.put]

end

theorem statusTaken_of_tracks {d : DriveStatus} {c : Channel} (h : c.tracks = true) :
    statusTaken d c = { c.taking d with setpoint := d.actual } := by
  rw [statusTaken, if_pos h]
  rfl

theorem statusTaken_of_not_tracks {d : DriveStatus} {c : Channel} (h : c.tracks = false) : statusTaken d c = c.taking d := by
  rw [statusTaken, h, if_neg Bool.false_ne_true]
  rfl

/-! ### The branches of a status taken (07, R119, R121, R122) -/

section

variable {s : State} {b : Nat} {d : DriveStatus}

theorem State.takeStatus_of_ignored (h : (s.channel b).state = .absent ∨ (s.channel b).taken = true) : s.takeStatus b d = s :=
  if_pos (by simpa using h)

variable (htaken : (s.channel b).taken = false)
include htaken

theorem State.takeStatus_of_disabled (hpresent : (s.channel b).state ≠ .absent) (h : (s.channel b).state.enabled = false) :
    s.takeStatus b d = (s.updChannel b (statusTaken d)).notifyView b (s.channel b).view := by
  simp [State.takeStatus, hpresent, htaken, h]

variable (henabled : (s.channel b).state.enabled = true)
include henabled

theorem State.takeStatus_of_enabled : s.takeStatus b d =
    if d.fault ≠ 0 then (s.updChannel b (statusTaken d)).faultUncompared b .driveFault d.fault
    else if !d.ready && (s.channel b).readySeen then
      (s.updChannel b (statusTaken d)).faultUncompared b .driveFault notReadyDetail
    else if (s.channel b).state.followChecked && s.machine.followLimit < apart d.actual (s.channel b).sentOld then
      (s.updChannel b (statusTaken d)).faultChannel b .barFollow 0 (apart d.actual (s.channel b).sentOld) (s.channel b).sentOld
    else (s.updChannel b (statusTaken d)).goodStatus b d := by
  have hpresent : (s.channel b).state ≠ .absent := by rintro h; simp [h, ChannelState.enabled] at henabled
  rw [State.takeStatus, if_neg (by simp [hpresent, htaken]), if_pos henabled]

theorem State.takeStatus_of_faultCode (h : d.fault ≠ 0) :
    s.takeStatus b d = (s.updChannel b (statusTaken d)).faultUncompared b .driveFault d.fault := by
  rw [State.takeStatus_of_enabled htaken henabled, if_pos h]

theorem State.takeStatus_of_readyLost (hfault : d.fault = 0) (hready : d.ready = false) (hseen : (s.channel b).readySeen = true) :
    s.takeStatus b d = (s.updChannel b (statusTaken d)).faultUncompared b .driveFault notReadyDetail := by
  rw [State.takeStatus_of_enabled htaken henabled, if_neg (by simp [hfault]), if_pos (by simp [hready, hseen])]

variable (hfault : d.fault = 0) (hready : d.ready = true ∨ (s.channel b).readySeen = false)
include hfault hready

theorem State.takeStatus_of_apart (hchecked : (s.channel b).state.followChecked = true)
    (hapart : s.machine.followLimit < apart d.actual (s.channel b).sentOld) :
    s.takeStatus b d = (s.updChannel b (statusTaken d)).faultChannel b .barFollow 0 (apart d.actual (s.channel b).sentOld)
      (s.channel b).sentOld := by
  rw [State.takeStatus_of_enabled htaken henabled, if_neg (by simp [hfault]), if_neg (by rcases hready with h | h <;> simp [h]),
    if_pos (by simp [hchecked, hapart])]

theorem State.takeStatus_of_good (hfollow : (s.channel b).state.followChecked = false ∨
    apart d.actual (s.channel b).sentOld ≤ s.machine.followLimit) :
    s.takeStatus b d = (s.updChannel b (statusTaken d)).goodStatus b d := by
  rw [State.takeStatus_of_enabled htaken henabled, if_neg (by simp [hfault]), if_neg (by rcases hready with h | h <;> simp [h]),
    if_neg (by rcases hfollow with h | h <;> simp [h])]

end

/-! ### A status that raises no fault (07, R126; 08, R141, R142, R150) -/

section

variable {s : State} {b : Nat} {d : DriveStatus}

theorem State.goodStatus_of_energizing (h : (s.channel b).state = .energizing) :
    s.goodStatus b d = s.updChannel b (energizingStatus d) := by rw [State.goodStatus, h]

theorem State.goodStatus_of_referencing (h : (s.channel b).state = .referencing) :
    s.goodStatus b d = s.referencingStatus b d := by rw [State.goodStatus, h]

theorem State.goodStatus_of_jogging (h : (s.channel b).state = .jogging) : s.goodStatus b d = s.joggingStatus b d := by
  rw [State.goodStatus, h]

theorem State.goodStatus_of_other (he : (s.channel b).state ≠ .energizing) (hr : (s.channel b).state ≠ .referencing)
    (hj : (s.channel b).state ≠ .jogging) : s.goodStatus b d = s := by
  unfold State.goodStatus
  split
  · contradiction
  · contradiction
  · contradiction
  · rfl

theorem State.joggingStatus_of_moving (h : (s.channel b).settleTimer = none) : s.joggingStatus b d = s := by
  rw [State.joggingStatus, h]

theorem State.joggingStatus_of_settling {e : Nat} {j : Jog} (h : (s.channel b).settleTimer = some e)
    (hj : (s.channel b).jog = some j) : s.joggingStatus b d =
      if apart d.actual j.coord ≤ s.machine.inPosition then s.endJog b .ok (toIdle s.machine) else s := by
  rw [State.joggingStatus, h, hj]

/-- LEAVE and SEARCH go on, and no status acts before them or in ZERO. -/
theorem State.referencingStatus_of_waiting (h : (s.channel b).phase = none ∨ (s.channel b).phase = some .zero ∨
      ((s.channel b).phase = some .leave ∧ d.switch = true ∧ (s.channel b).limitSent ≠ 2) ∨
      ((s.channel b).phase = some .search ∧ d.switch = false ∧ (s.channel b).limitSent ≠ 2)) :
    s.referencingStatus b d = s := by
  unfold State.referencingStatus
  rcases h with h | h | ⟨h, hs, hl⟩ | ⟨h, hs, hl⟩
  · simp only [h]
  · simp only [h]
  · simp [h, hs, hl]
  · simp [h, hs, hl]

theorem State.referencingStatus_of_left (h : (s.channel b).phase = some .leave) (hs : d.switch = false) :
    s.referencingStatus b d = s.updChannel b (beginSearch (s.profile b)) := by
  simp [State.referencingStatus, h, hs]

theorem State.referencingStatus_of_found (h : (s.channel b).phase = some .search) (hs : d.switch = true)
    (hfits : spanFits s.machine (s.profile b) d.actual = true) :
    s.referencingStatus b d = s.updChannel b (beginZero (s.profile b) d.actual) := by
  simp [State.referencingStatus, h, hs, hfits]

theorem State.referencingStatus_of_notFound (h : ((s.channel b).phase = some .leave ∧ d.switch = true ∧ (s.channel b).limitSent = 2) ∨
      ((s.channel b).phase = some .search ∧ d.switch = false ∧ (s.channel b).limitSent = 2) ∨
      ((s.channel b).phase = some .search ∧ d.switch = true ∧ spanFits s.machine (s.profile b) d.actual = false)) :
    s.referencingStatus b d = s.notFound b := by
  rcases h with ⟨h, hs, hl⟩ | ⟨h, hs, hl⟩ | ⟨h, hs, hl⟩ <;> simp [State.referencingStatus, h, hs, hl]

end

/-- The change of a channel leaves the status that it has taken. -/
def KeepsStatus (f : Channel → Channel) : Prop :=
  ∀ c, (f c).last = c.last ∧ (f c).taken = c.taken ∧ (f c).missed = c.missed ∧ (f c).view = c.view

/-- A status that raises no fault changes its channel alone, and leaves the status that it has taken (07, R119). -/
theorem State.goodStatus_channels (s : State) (b : Nat) (d : DriveStatus) :
    ∃ f, KeepsStatus f ∧ (s.goodStatus b d).channels = (s.updChannel b f).channels := by
  have hsame : ∃ f, KeepsStatus f ∧ s.channels = (s.updChannel b f).channels :=
    ⟨id, fun _ => ⟨rfl, rfl, rfl, rfl⟩, by simp [List.modify_id]⟩
  have hnotFound : ∃ f, KeepsStatus f ∧ (s.notFound b).channels = (s.updChannel b f).channels :=
    ⟨fun c => toIdle s.machine (unreferenced c), fun _ => ⟨rfl, rfl, rfl, rfl⟩, by simp [State.notFound]⟩
  unfold State.goodStatus
  split
  · refine ⟨energizingStatus d, fun c => ?_, rfl⟩
    unfold energizingStatus
    split <;> exact ⟨rfl, rfl, rfl, rfl⟩
  · unfold State.referencingStatus
    dsimp only
    split
    · split
      · exact ⟨beginSearch (s.profile b), fun _ => ⟨rfl, rfl, rfl, rfl⟩, rfl⟩
      · split
        · exact hnotFound
        · exact hsame
    · split
      · split
        · exact ⟨beginZero (s.profile b) d.actual, fun _ => ⟨rfl, rfl, rfl, rfl⟩, rfl⟩
        · exact hnotFound
      · split
        · exact hnotFound
        · exact hsame
    · exact hsame
  · unfold State.joggingStatus
    split
    · split
      · unfold State.endJog
        split
        · exact ⟨toIdle s.machine, fun _ => ⟨rfl, rfl, rfl, rfl⟩, by simp⟩
        · exact hsame
      · exact hsame
    · exact hsame
  · exact hsame

/-! ### The change of view (07, R123) -/

/-- The one DRIVE_CHANGE of a bar is changed where it stands. -/
theorem map_driveChange_eq_set {b : Nat} {n : Notice} (g : Notice → Notice) (hbar : n.driveChangeBar = some b) :
    ∀ {l : List Notice} {i : Nat}, (driveChangeBars l).Nodup → l[i]? = some n →
      (l.map fun o => if o.driveChangeBar == some b then g o else o) = l.set i (g n)
  | [], i, _, hi => by simp at hi
  | x :: xs, 0, hnodup, hi => by
    obtain rfl : x = n := by simpa using hi
    have hcons : driveChangeBars (x :: xs) = b :: driveChangeBars xs := by simp [driveChangeBars, hbar]
    have hrest : xs.map (fun o => if o.driveChangeBar == some b then g o else o) = xs := by
      refine (List.map_congr_left fun o ho => if_neg fun hsame => ?_).trans xs.map_id
      rw [hcons] at hnodup
      exact (List.nodup_cons.mp hnodup).1 (List.mem_filterMap.mpr ⟨o, ho, eq_of_beq hsame⟩)
    simp only [List.map_cons, hbar, beq_self_eq_true, if_true, hrest, List.set_cons_zero]
  | x :: xs, i + 1, hnodup, hi => by
    have hmem : b ∈ driveChangeBars xs := List.mem_filterMap.mpr ⟨n, List.mem_of_getElem? (by simpa using hi), hbar⟩
    have hother : (x.driveChangeBar == some b) = false := by
      refine beq_eq_false_iff_ne.mpr fun hx => ?_
      have hcons : driveChangeBars (x :: xs) = b :: driveChangeBars xs := by simp [driveChangeBars, hx]
      rw [hcons] at hnodup
      exact (List.nodup_cons.mp hnodup).1 hmem
    have hrest : (driveChangeBars xs).Nodup := hnodup.sublist ((List.sublist_cons_self x xs).filterMap _)
    simp only [List.map_cons, hother, Bool.false_eq_true, if_false, List.set_cons_succ,
      map_driveChange_eq_set g hbar hrest (by simpa using hi)]

theorem Link.offerDriveChange_of_new {l : Link} {n : Notice} (h : ∀ o ∈ l.notices, o.driveChangeBar ≠ some n.subject) :
    l.offerDriveChange n = l.offer n := by
  refine if_neg fun hany => ?_
  obtain ⟨o, ho, hbar⟩ := List.any_eq_true.mp hany
  exact h o ho (eq_of_beq hbar)

theorem Link.offerDriveChange_of_queued {l : Link} {o n : Notice} {i : Nat} (hnodup : (driveChangeBars l.notices).Nodup)
    (ho : l.notices[i]? = some o) (hbar : o.driveChangeBar = some n.subject) :
    l.offerDriveChange n = { l with notices := l.notices.set i (o.renewedBy n) } := by
  have hany : (l.notices.any fun o => o.driveChangeBar == some n.subject) = true :=
    List.any_eq_true.mpr ⟨o, List.mem_of_getElem? ho, by simp [hbar]⟩
  rw [Link.offerDriveChange, if_pos hany, map_driveChange_eq_set (fun o => o.renewedBy n) hbar hnodup ho]

theorem State.notifyView_of_same {s : State} {b : Nat} {before : DriveView}
    (h : before = .unknown ∨ before = (s.channel b).view) : s.notifyView b before = s := if_pos (by simpa using h)

theorem State.notifyView_of_changed {s : State} {b : Nat} {before : DriveView} {d : DriveStatus} (hu : before ≠ .unknown)
    (hv : before ≠ (s.channel b).view) (hd : (s.channel b).last = some d) :
    s.notifyView b before = { s with
      link := s.link.offerDriveChange
        ⟨.driveChange before d.fault d.switch d.actual, driveViewCode (s.channel b).view, b, s.currentTag, s.tracker.angle⟩ } := by
  rw [State.notifyView, if_neg (by simp [hu, hv]), hd]
  rfl

end Sys2Proof.Machine
end

section
/-! PROOF. STATUS_FRAME as the statement has it (07, R119 to R124, R126; 08, R141 to R144, R150): what a status leaves in each state. -/

namespace Sys2Proof.Machine

/-! ### The command -/

section

variable {s : State} {b : Nat} {d : DriveStatus} {line : DriveLine} (hq : s.Quiet)
include hq

theorem exec_statusFrame_of_badCrc {c1 c0 : Byte} (h : [c1, c0] ≠ crcBytes ((statusBytes b d).tail.take 5)) :
    exec (.statusFrame line ((statusBytes b d).take 6 ++ [c1, c0])) s = .next s := by
  rw [exec_statusFrame hq, State.receiveStatus, parseStatus_of_badCrc h]

theorem exec_statusFrame_of_good (hb : barExists b = true) (hfault : d.fault < 16) (hlow : -8388608 ≤ d.actual)
    (hhigh : d.actual ≤ 8388607) :
    exec (.statusFrame line (statusBytes b d)) s = .next (if onLine line b then s.takeStatus b d else s) := by
  rw [exec_statusFrame hq, State.receiveStatus, parseStatus_statusBytes hb hfault hlow hhigh]

end

/-! ### A status that faults its channel (07, R115, R121, R122, R124) -/

/-- A fault of an enabled channel on a status, as the statement says it: the channel, the halt in RUN, and the BAR_FAULT of a machine
that stands. -/
def State.StatusFaults (s t : State) (b : Nat) (d : DriveStatus) (cause : Cause) (code detail error : Nat) : Prop :=
  let c := s.channel b
  (t.channel b).state = .faulted ∧ (t.channel b).referenced = false ∧ (t.channel b).refPoint = none ∧
  (t.channel b).setpoint = (if c.state = .energizing ∧ c.readySeen = false then d.actual else c.setpoint) ∧
  (s.run.state = .run → t.run.state = .halt ∧
    t.run.halt = some ⟨cause, detail, b, s.currentTag, s.tracker.angle, s.tracker.speed⟩) ∧
  (s.run.state = .standby ∨ s.run.state = .hold → s.run.requested ≠ some .run → c.jog = none →
    (∀ r, s.referencing = some r → inSet r.remaining b = false) → t.run = s.run ∧
    ∃ x : Int, (cause = .barFollow → x = c.sentOld) ∧ t.link = s.link.offer
      ⟨.barFault c.state detail (min error 16777215) x, code, b, s.currentTag, s.tracker.angle⟩)

theorem Channel.tracks_iff_of_enabled {c : Channel} (h : c.state.enabled = true) :
    c.tracks = true ↔ c.state = .energizing ∧ c.readySeen = false := by
  unfold Channel.tracks
  split
  next hs => simp [hs, ChannelState.enabled] at h
  next hs => simp [hs, ChannelState.enabled] at h
  next hs => simp [hs]
  next hs => exact ⟨fun h => absurd h Bool.false_ne_true, fun ⟨hs', _⟩ => absurd hs' hs⟩

section

variable {s : State} {b : Nat} {d : DriveStatus} (h : s.Holds b)
include h

/-- A fault found on a status: in the state that has taken the status, whatever free values were drawn. -/
theorem State.faultChannel_on_status {u : State} (hu : u = { s.updChannel b (statusTaken d) with draws := u.draws }) (cause : Cause)
    (detail error : Nat) (compared : Int) :
    let c := s.channel b
    let t := u.faultChannel b cause detail error compared
    t.channel b = toFaulted (statusTaken d c) ∧
    (s.run.state = .run → t.run.state = .halt ∧
      t.run.halt = some ⟨cause, detail, b, s.currentTag, s.tracker.angle, s.tracker.speed⟩) ∧
    (s.run.state = .standby ∨ s.run.state = .hold → s.run.requested ≠ some .run → c.jog = none →
      (∀ r, s.referencing = some r → inSet r.remaining b = false) → t.run = s.run ∧ t.link = s.link.offer
        ⟨.barFault c.state detail (min error 16777215) compared, causeCode cause, b, s.currentTag, s.tracker.angle⟩) := by
  intro c t
  have hchannel : u.channel b = statusTaken d c := by
    rw [hu]
    exact State.channel_updChannel h.place_lt _
  have hlength : u.channels.length = 64 := by rw [hu]; simpa using h.2
  refine ⟨by rw [State.channel_faultChannel _ _ _ _ h.1 hlength, hchannel], fun hrun => ?_, fun hstill hrequested hjog href => ?_⟩
  · rw [State.faultChannel_run (s := u) _ _ _ _ (by rw [hu]; exact hrun), hu]
    exact ⟨rfl, rfl⟩
  · have ht : t = (u.updChannel b toFaulted).notifyBarFault b cause (u.channel b).state detail error compared :=
      State.faultChannel_still _ _ _ _ (by rw [hu]; exact hstill) (by rw [hu]; exact hrequested) (by rw [hchannel]; exact hjog)
        (by rw [hu]; exact href)
    rw [ht, hchannel, hu]
    exact ⟨rfl, rfl⟩

variable (henabled : (s.channel b).state.enabled = true)
include henabled

theorem State.statusFaults_of_faultChannel {u : State} (hu : u = { s.updChannel b (statusTaken d) with draws := u.draws })
    (cause : Cause) (detail error : Nat) {compared : Int} (hcompared : cause = .barFollow → compared = (s.channel b).sentOld) :
    s.StatusFaults (u.faultChannel b cause detail error compared) b d cause (causeCode cause) detail error := by
  obtain ⟨hchannel, hrun, hstill⟩ := State.faultChannel_on_status h hu cause detail error compared
  refine ⟨by rw [hchannel]; rfl, by rw [hchannel]; rfl, by rw [hchannel]; rfl, ?_, hrun, fun hs hr hj href => ?_⟩
  · rw [hchannel]
    change (if (s.channel b).tracks = true then d.actual else (s.channel b).setpoint) = _
    simp only [Channel.tracks_iff_of_enabled henabled]
  · obtain ⟨hsame, hlink⟩ := hstill hs hr hj href
    exact ⟨hsame, compared, hcompared, hlink⟩

variable (htaken : (s.channel b).taken = false)
include htaken

theorem State.statusFaults_of_faultCode (hfault : d.fault ≠ 0) :
    s.StatusFaults (s.takeStatus b d) b d .driveFault 0x07 d.fault 0 := by
  rw [State.takeStatus_of_faultCode htaken henabled hfault]
  exact State.statusFaults_of_faultChannel h henabled rfl .driveFault d.fault 0 (fun hc => nomatch hc)

theorem State.statusFaults_of_readyLost (hseen : (s.channel b).readySeen = true) (hready : d.ready = false) (hfault : d.fault = 0) :
    s.StatusFaults (s.takeStatus b d) b d .driveFault 0x07 0x10 0 := by
  rw [State.takeStatus_of_readyLost htaken henabled hfault hready hseen]
  exact State.statusFaults_of_faultChannel h henabled rfl .driveFault notReadyDetail 0 (fun hc => nomatch hc)

theorem State.statusFaults_of_apart (hfault : d.fault = 0) (hready : d.ready = true ∨ (s.channel b).readySeen = false)
    (hchecked : (s.channel b).state.followChecked = true)
    (hapart : s.machine.followLimit < apart d.actual (s.channel b).sentOld) :
    s.StatusFaults (s.takeStatus b d) b d .barFollow 0x06 0 (apart d.actual (s.channel b).sentOld) := by
  rw [State.takeStatus_of_apart htaken henabled hfault hready hchecked hapart]
  exact State.statusFaults_of_faultChannel h henabled rfl .barFollow 0 _ (fun _ => rfl)

end

/-! ### What every status leaves (07, R119) -/

/-- A status that its channel takes is its last one, and its view, and no status is missing. -/
theorem State.takeStatus_keeps_status {s : State} {b : Nat} {d : DriveStatus} (h : s.Holds b)
    (hpresent : (s.channel b).state ≠ .absent) (htaken : (s.channel b).taken = false) :
    let k := (s.takeStatus b d).channel b
    k.last = some d ∧ k.taken = true ∧ k.missed = 0 ∧ k.view = if d.ready then .ready else .notReady := by
  have hone : (s.updChannel b (statusTaken d)).channel b = statusTaken d (s.channel b) := State.channel_updChannel h.place_lt _
  have hkept : ∀ (f : Channel → Channel) (t : State), KeepsStatus f → t.channel b = f (statusTaken d (s.channel b)) →
      (t.channel b).last = some d ∧ (t.channel b).taken = true ∧ (t.channel b).missed = 0 ∧
        (t.channel b).view = if d.ready then .ready else .notReady := fun f t hf ht => by
    rw [ht]
    exact hf _
  have hfaulted : KeepsStatus toFaulted := fun _ => ⟨rfl, rfl, rfl, rfl⟩
  cases henabled : (s.channel b).state.enabled with
  | false =>
    rw [State.takeStatus_of_disabled htaken hpresent henabled]
    refine hkept id _ (fun _ => ⟨rfl, rfl, rfl, rfl⟩) ?_
    rw [State.channel_of_channels (t := State.notifyView _ _ _) (s := s.updChannel b (statusTaken d))
      (by rw [State.notifyView_frame]), hone]
    rfl
  | true =>
    have hfault : ∀ (u : State) (cause : Cause) (detail error : Nat) (compared : Int),
        u = { s.updChannel b (statusTaken d) with draws := u.draws } →
        (u.faultChannel b cause detail error compared).channel b = toFaulted (statusTaken d (s.channel b)) :=
      fun u cause detail error compared hu => (State.faultChannel_on_status h hu cause detail error compared).1
    rw [State.takeStatus_of_enabled htaken henabled]
    split
    · exact hkept _ _ hfaulted (hfault _ _ _ _ _ rfl)
    · split
      · exact hkept _ _ hfaulted (hfault _ _ _ _ _ rfl)
      · split
        · exact hkept _ _ hfaulted (hfault _ _ _ _ _ rfl)
        · obtain ⟨f, hf, hchannels⟩ := State.goodStatus_channels (s.updChannel b (statusTaken d)) b d
          refine hkept f _ hf ?_
          rw [State.channel_of_channels hchannels, State.channel_updChannel (by simpa using h.place_lt), hone]

/-! ### A status that raises no fault, in the channel that has taken it -/

theorem energizingStatus_of_unseen {c : Channel} (h : c.readySeen = false) (d : DriveStatus) : energizingStatus d c =
    if d.ready then { c with readySeen := true, enableTimer := none, energizeTimer := some 0 } else c := by
  simp [energizingStatus, h]

section

variable {s : State} {b : Nat} {d : DriveStatus} {k : Channel} (h : s.Holds b)
include h

theorem State.goodStatus_put_of_other
    (hstate : k.state = .idle ∨ k.state = .idleReduced ∨ k.state = .aligning ∨ k.state = .following) :
    (s.put b k).goodStatus b d = s.put b k := by
  have hk := State.channel_put h k
  refine State.goodStatus_of_other ?_ ?_ ?_
  all_goals rw [hk]; rcases hstate with hs | hs | hs | hs <;> simp [hs]

/-- ENERGIZING after the first ready takes a status and does no more (07, R126). -/
theorem State.goodStatus_put_energized (hstate : k.state = .energizing) (hseen : k.readySeen = true) :
    (s.put b k).goodStatus b d = s.put b k := by
  have hk := State.channel_put h k
  rw [State.goodStatus_of_energizing (by rw [hk, hstate]), State.updChannel_put h]
  exact congrArg (s.put b) (if_neg (by simp [hseen]))

/-- A jog on its way takes a status and does no more (08, R150). -/
theorem State.goodStatus_put_moving (hstate : k.state = .jogging) (htimer : k.settleTimer = none) :
    (s.put b k).goodStatus b d = s.put b k := by
  have hk := State.channel_put h k
  rw [State.goodStatus_of_jogging (by rw [hk, hstate]), State.joggingStatus_of_moving (by rw [hk, htimer])]

/-- A jog in its settle time ends in position, and goes on otherwise (08, R150, R151). -/
theorem State.goodStatus_put_settling {e : Nat} {j : Jog} (hstate : k.state = .jogging) (htimer : k.settleTimer = some e)
    (hjog : k.jog = some j) (hlast : k.last = some d) : (s.put b k).goodStatus b d =
      if apart d.actual j.coord ≤ s.machine.inPosition then
        { s.put b (toIdle s.machine k) with
          link := s.link.offer
            ⟨.jogDone j.target (heldSigned (d.actual - j.coord)) j.time, 0x00, b, s.currentTag, s.tracker.angle⟩ }
      else s.put b k := by
  have hk := State.channel_put h k
  have hended : (s.put b k).endJog b .ok (toIdle s.machine) = { (s.put b k).updChannel b (toIdle s.machine) with
      link := s.link.offer
        ⟨.jogDone j.target (heldSigned (d.actual - j.coord)) j.time, 0x00, b, s.currentTag, s.tracker.angle⟩ } := by
    rw [State.endJog, if_pos (by rw [hk, hjog]; rfl),
      State.notifyJogDone_of_some (by rw [hk]; exact hjog) (by rw [hk]; exact hlast)]
    rfl
  rw [State.updChannel_put h] at hended
  rw [State.goodStatus_of_jogging (by rw [hk, hstate]),
    State.joggingStatus_of_settling (by rw [hk]; exact htimer) (by rw [hk]; exact hjog)]
  exact congrArg (fun t => if apart d.actual j.coord ≤ s.machine.inPosition then t else s.put b k) hended

theorem State.goodStatus_put_referencing (hstate : k.state = .referencing) :
    (s.put b k).goodStatus b d = (s.put b k).referencingStatus b d :=
  State.goodStatus_of_referencing (by rw [State.channel_put h]; exact hstate)

/-- The switch left, SEARCH begins (08, R141, R142). -/
theorem State.referencingStatus_put_left (hphase : k.phase = some .leave) (hswitch : d.switch = false) :
    (s.put b k).referencingStatus b d = s.put b (beginSearch (s.profile b) k) := by
  have hk := State.channel_put h k
  rw [State.referencingStatus_of_left (by rw [hk]; exact hphase) hswitch, State.updChannel_put h]
  rfl

/-- The switch found, ZERO begins (08, R142, R143). -/
theorem State.referencingStatus_put_found (hphase : k.phase = some .search) (hswitch : d.switch = true)
    (hfits : spanFits s.machine (s.profile b) d.actual = true) :
    (s.put b k).referencingStatus b d = s.put b (beginZero (s.profile b) d.actual k) := by
  have hk := State.channel_put h k
  rw [State.referencingStatus_of_found (by rw [hk]; exact hphase) hswitch (by exact hfits), State.updChannel_put h]
  rfl

/-- A referencing that does not find its switch finishes with NOT_FOUND (08, R144, R147). -/
theorem State.notFound_put {r : Referencing} (hr : s.referencing = some r) (hremaining : inSet r.remaining b = true) :
    let rest := r.remaining &&& ~~~(barBit b)
    let t := s.put b (toIdle s.machine (unreferenced k))
    (s.put b k).notFound b =
      if rest = 0 then { t with
        referencing := none
        link := s.link.offer ⟨.referenceDone r.found, r.outcomes ||| 0x01, (barsOf r.selected).length, s.currentTag,
          s.tracker.angle⟩ }
      else { t with referencing := some { r with remaining := rest, outcomes := r.outcomes ||| 0x01 } } := by
  intro rest t
  have hupd : (s.put b k).updChannel b (fun c => toIdle s.machine (unreferenced c)) = t := State.updChannel_put h k _
  change ((s.put b k).updChannel b (fun c => toIdle s.machine (unreferenced c))).finishBar b .notFound = _
  rw [hupd, State.finishBar_of_remaining (s := t) hr hremaining]
  rfl

/-- A change of view offers its DRIVE_CHANGE (07, R123). -/
theorem State.notifyView_put {before : DriveView} (hknown : before ≠ .unknown) (hchanged : before ≠ k.view)
    (hlast : k.last = some d) : (s.put b k).notifyView b before = { s.put b k with
      link := s.link.offerDriveChange
        ⟨.driveChange before d.fault d.switch d.actual, driveViewCode k.view, b, s.currentTag, s.tracker.angle⟩ } := by
  have hk := State.channel_put h k
  rw [State.notifyView_of_changed hknown (by rw [hk]; exact hchanged) (by rw [hk]; exact hlast), hk]
  rfl

end

/-! ### What a status leaves in each state -/

/-- A status raises no fault of the drive's own (07, R121). -/
def Channel.AcceptsDrive (c : Channel) (d : DriveStatus) : Prop := d.fault = 0 ∧ (d.ready = true ∨ c.readySeen = false)

theorem ChannelState.of_followChecked {st : ChannelState} (h : st.followChecked = true) :
    st = .jogging ∨ st = .referencing ∨ st = .aligning ∨ st = .following := by
  cases st <;> simp [ChannelState.followChecked] at h ⊢

section

variable {s : State} {b : Nat} {d : DriveStatus} (h : s.Holds b) (htaken : (s.channel b).taken = false)
include h htaken

/-- ENERGIZING tracks until the first ready, which starts the energize timer (07, R126). -/
theorem State.takeStatus_energizing (hstate : (s.channel b).state = .energizing) (hseen : (s.channel b).readySeen = false)
    (hfault : d.fault = 0) :
    s.takeStatus b d = s.put b (energizingStatus d { (s.channel b).taking d with setpoint := d.actual }) := by
  have htracks : (s.channel b).tracks = true := by simp [Channel.tracks, hstate, hseen]
  rw [State.takeStatus_of_good htaken (by simp [hstate, ChannelState.enabled]) hfault (.inr hseen)
      (.inl (by simp [hstate, ChannelState.followChecked])),
    State.updChannel_eq_put h, statusTaken_of_tracks htracks,
    State.goodStatus_of_energizing (by rw [State.channel_put h]; exact hstate), State.updChannel_put h]

/-- A status that raises no fault, where the setpoint does not track: the channel takes it, and its state acts (07, R119). -/
theorem State.takeStatus_of_untracked (henabled : (s.channel b).state.enabled = true) (htracks : (s.channel b).tracks = false)
    (hgood : (s.channel b).AcceptsDrive d)
    (hfollow : (s.channel b).state.followChecked = false ∨ apart d.actual (s.channel b).sentOld ≤ s.machine.followLimit) :
    s.takeStatus b d = (s.put b ((s.channel b).taking d)).goodStatus b d := by
  rw [State.takeStatus_of_good htaken henabled hgood.1 hgood.2 hfollow, State.updChannel_eq_put h,
    statusTaken_of_not_tracks htracks]

/-- A holding channel, and one that waits for its energize time, take a status and do no more (07, R119, R126). -/
theorem State.takeStatus_resting (hgood : (s.channel b).AcceptsDrive d)
    (hstate : (s.channel b).state = .idle ∨ (s.channel b).state = .idleReduced ∨
      ((s.channel b).state = .energizing ∧ (s.channel b).readySeen = true)) :
    s.takeStatus b d = s.put b ((s.channel b).taking d) := by
  have hshape : (s.channel b).state.enabled = true ∧ (s.channel b).tracks = false ∧
      (s.channel b).state.followChecked = false := by
    rcases hstate with hs | hs | ⟨hs, hseen⟩
    · simp [hs, Channel.tracks, ChannelState.enabled, ChannelState.followChecked]
    · simp [hs, Channel.tracks, ChannelState.enabled, ChannelState.followChecked]
    · simp [hs, hseen, Channel.tracks, ChannelState.enabled, ChannelState.followChecked]
  obtain ⟨henabled, htracks, hunchecked⟩ := hshape
  rw [State.takeStatus_of_untracked h htaken henabled htracks hgood (.inl hunchecked)]
  rcases hstate with hs | hs | ⟨hs, hseen⟩
  · exact State.goodStatus_put_of_other h (.inl hs)
  · exact State.goodStatus_put_of_other h (.inr (.inl hs))
  · exact State.goodStatus_put_energized h hs hseen

/-- OFF and FAULTED track, and report a change of view (07, R115, R123). -/
theorem State.takeStatus_unenabled (hstate : (s.channel b).state = .off ∨ (s.channel b).state = .faulted) :
    s.takeStatus b d =
      (s.put b { (s.channel b).taking d with setpoint := d.actual }).notifyView b (s.channel b).view := by
  have hshape : (s.channel b).state ≠ .absent ∧ (s.channel b).state.enabled = false ∧ (s.channel b).tracks = true := by
    rcases hstate with hs | hs <;> simp [hs, Channel.tracks, ChannelState.enabled]
  obtain ⟨hpresent, hdisabled, htracks⟩ := hshape
  rw [State.takeStatus_of_disabled htaken hpresent hdisabled, State.updChannel_eq_put h, statusTaken_of_tracks htracks]

/-- A channel that moves, within the following limit: it takes the status, and its state acts (07, R122). -/
theorem State.takeStatus_near (hgood : (s.channel b).AcceptsDrive d) (hmoves : (s.channel b).state.followChecked = true)
    (hnear : apart d.actual (s.channel b).sentOld ≤ s.machine.followLimit) :
    s.takeStatus b d = (s.put b ((s.channel b).taking d)).goodStatus b d := by
  have hshape : (s.channel b).state.enabled = true ∧ (s.channel b).tracks = false := by
    rcases ChannelState.of_followChecked hmoves with hs | hs | hs | hs <;> simp [hs, Channel.tracks, ChannelState.enabled]
  exact State.takeStatus_of_untracked h htaken hshape.1 hshape.2 hgood (.inr hnear)

end

/-- Settles O45: the frame read back, and the status by the channel's state. -/
theorem statusFrameIsTaken : Obligations.StatusFrameIsTaken := by
  refine ⟨fun line b d s hq hb hs hcode hlow hhigh => ?_, fun line b d s hq hb hs hcode hlow hhigh hline htaken => ?_⟩
  · intro c
    have h : s.Holds b := ⟨hb, hs.1⟩
    have hexec := exec_statusFrame_of_good (line := line) hq hb hcode hlow hhigh
    refine ⟨fun hignored => ?_, fun c1 c0 hcrc => exec_statusFrame_of_badCrc hq hcrc, fun hline hpresent htaken => ?_⟩
    · rw [hexec]
      rcases hignored with hline | hignored
      · rw [hline, if_neg Bool.false_ne_true]
      · rw [State.takeStatus_of_ignored hignored, ite_self]
    · rw [hline, if_pos rfl] at hexec
      obtain ⟨hlast, htook, hmissed, hview⟩ := State.takeStatus_keeps_status (d := d) h hpresent htaken
      refine ⟨_, hexec, hlast, htook, hmissed, hview, fun henabled hfault => ?_, fun hstate hfault hready => ?_, fun hstate => ?_⟩
      · obtain ⟨hfaulted, hreferenced, -, -, hrun, -⟩ := State.statusFaults_of_faultCode h henabled htaken hfault
        exact ⟨hfaulted, hreferenced, fun hr => ⟨(hrun hr).1, _, (hrun hr).2, rfl, rfl, rfl⟩⟩
      · have hchecked : c.state.followChecked = true := by rw [hstate]; rfl
        refine ⟨fun hapart => ?_, fun hnear => ?_⟩
        · exact (State.statusFaults_of_apart h (by rw [hstate]; rfl) htaken hfault (.inl hready) hchecked hapart).1
        · rw [State.takeStatus_near h htaken ⟨hfault, .inl hready⟩ hchecked hnear,
            State.goodStatus_put_of_other (k := c.taking d) h (.inr (.inr (.inr hstate))), State.channel_put h]
          exact hstate
      · rw [State.takeStatus_unenabled h htaken hstate,
          State.channel_of_channels (t := State.notifyView _ _ _) (s := s.put b _) (by rw [State.notifyView_frame]),
          State.channel_put h]
        exact ⟨rfl, rfl⟩
  · intro c m p out view k put idle moving apart good faulted
    have h : s.Holds b := ⟨hb, hs.1⟩
    have hout : out = .next (s.takeStatus b d) := by
      have hexec := exec_statusFrame_of_good (line := line) hq hb hcode hlow hhigh
      rwa [hline, if_pos rfl] at hexec
    have hleaves : ∀ t : State, s.takeStatus b d = t → out = .next t := fun t ht => hout.trans (congrArg _ ht)
    have hnearby (hg : good) (hchecked : c.state.followChecked = true) (hnear : apart ≤ m.followLimit) :
        s.takeStatus b d = (s.put b (c.taking d)).goodStatus b d := State.takeStatus_near h htaken hg hchecked hnear
    refine ⟨fun hstate hseen hfault => ?_, fun hstate hg => ?_, fun henabled hfault => ?_, fun henabled hseen hready hfault => ?_,
      fun hmoving hg hapart => ?_, fun hstate hg hnear => ?_, fun e j hstate hg hnear htimer hjog => ?_,
      fun hstate hg hnear htimer => ?_, fun hstate hg hnear => ?_, fun hstate => ?_⟩
    · refine hleaves _ ((State.takeStatus_energizing h htaken hstate hseen hfault).trans ?_)
      exact congrArg (s.put b) (energizingStatus_of_unseen (c := { c.taking d with setpoint := d.actual }) hseen d)
    · exact hleaves _ (State.takeStatus_resting h htaken hg hstate)
    · exact ⟨_, hout, State.statusFaults_of_faultCode h henabled htaken hfault⟩
    · exact ⟨_, hout, State.statusFaults_of_readyLost h henabled htaken hseen hready hfault⟩
    · refine ⟨_, hout, State.statusFaults_of_apart h ?_ htaken hg.1 hg.2 ?_ hapart⟩
      all_goals rcases hmoving with hs | hs | hs | hs <;> rw [hs] <;> rfl
    · refine hleaves _ ((hnearby hg ?_ hnear).trans (State.goodStatus_put_of_other h (.inr (.inr hstate))))
      rcases hstate with hs | hs <;> rw [hs] <;> rfl
    · exact hleaves _ ((hnearby hg (by rw [hstate]; rfl) hnear).trans
        (State.goodStatus_put_settling h (by exact hstate) (by exact htimer) (by exact hjog) rfl))
    · exact hleaves _ ((hnearby hg (by rw [hstate]; rfl) hnear).trans
        (State.goodStatus_put_moving h (by exact hstate) (by exact htimer)))
    · have hreferencing : s.takeStatus b d = (s.put b (c.taking d)).referencingStatus b d :=
        (hnearby hg (by rw [hstate]; rfl) hnear).trans (State.goodStatus_put_referencing h (by exact hstate))
      have hk : (s.put b (c.taking d)).channel b = c.taking d := State.channel_put h _
      refine ⟨fun hwaits => ?_, fun hphase hswitch => ?_, fun hphase hswitch hfits => ?_, fun r hr hremaining hlost => ?_⟩
      · exact hleaves _ (hreferencing.trans (State.referencingStatus_of_waiting (by rw [hk]; exact hwaits)))
      · exact hleaves _ (hreferencing.trans (State.referencingStatus_put_left h (by exact hphase) hswitch))
      · exact hleaves _ (hreferencing.trans
          (State.referencingStatus_put_found h (by exact hphase) hswitch (decide_eq_true hfits)))
      · refine hleaves _ (hreferencing.trans ?_)
        rw [State.referencingStatus_of_notFound, State.notFound_put h hr hremaining]
        · rfl
        · rw [hk]
          rcases hlost with hl | hl | ⟨hphase, hswitch, hfits⟩
          · exact .inl hl
          · exact .inr (.inl hl)
          · exact .inr (.inr ⟨hphase, hswitch, decide_eq_false (not_le.mpr hfits)⟩)
    · intro t notice
      have htakes : s.takeStatus b d = (s.put b { c.taking d with setpoint := d.actual }).notifyView b c.view :=
        State.takeStatus_unenabled h htaken hstate
      refine ⟨fun hsame => ?_, fun hknown hchanged => ?_⟩
      · exact hleaves _ (htakes.trans (State.notifyView_of_same (by rw [State.channel_put h]; exact hsame)))
      · have hcode : driveViewCode view = if d.ready then 0x01 else 0x02 := by
          simp only [view]
          split <;> rfl
        have hoffers : s.takeStatus b d = { t with link := s.link.offerDriveChange (notice c.view) } := by
          refine (htakes.trans (State.notifyView_put h hknown hchanged rfl)).trans ?_
          simp only [notice, ← hcode]
          rfl
        refine ⟨fun hnew => ?_, fun i n before fault switch actual hsound hi hreport hsubject => ?_⟩
        · rw [Link.offerDriveChange_of_new hnew] at hoffers
          exact hleaves _ hoffers
        · have hbar : n.driveChangeBar = some b := by simp [Notice.driveChangeBar, hreport, hsubject]
          have hrenewed : n.renewedBy (notice c.view) = notice before := by
            simp only [Notice.renewedBy, hreport]
            rfl
          rw [Link.offerDriveChange_of_queued hsound.2 hi hbar, hrenewed] at hoffers
          exact hleaves _ hoffers

end Sys2Proof.Machine
end

section
/-! PROOF. What a drive command leaves alone (07, R114, R118 to R124; 09, R166): the blocks that it has no part in, and the other
channels while the run controller does not act. -/

namespace Sys2Proof.Machine

/-! ### What no drive command changes -/

/-- The blocks that a drive command has no part in, the port without its notices, and the run controller's fields that no report
sets. -/
structure DriveRest where
  pending : List Instr
  power : Power
  tracker : Tracker
  machine : MachineRecord
  profiles : List Profile
  assign : List (Option Nat)
  store : Store
  player : Player
  lists : Lists
  port : Link
  badRequest : Bool
  peak : Nat
  resetCause : ResetCause

def State.driveRest (s : State) : DriveRest where
  pending := s.pending
  power := s.power
  tracker := s.tracker
  machine := s.machine
  profiles := s.profiles
  assign := s.assign
  store := s.store
  player := s.player
  lists := s.lists
  port := s.link.port
  badRequest := s.run.badRequest
  peak := s.run.peak
  resetCause := s.run.resetCause

/-- The run controller has acted on a report: it has halted, or a request toward RUN has failed (09, R161, R167). -/
def State.RunActs (s t : State) : Prop :=
  (s.run.state = .run ∧ t.run.state = .halt) ∨
  (s.run.requested = some .run ∧ t.run.requested = none ∧ t.run.state = s.run.state)

/-- Nothing has changed of the run controller, of the permit line and of the channels but that of bar `b`. -/
def State.ActsAlone (b : Nat) (s t : State) : Prop :=
  t.run = s.run ∧ t.permitLine = s.permitLine ∧ ∀ x, barExists x = true → x ≠ b → t.channel x = s.channel x

/-- What a drive event of bar `b` may bring about. -/
structure State.DriveStep (b : Nat) (s t : State) : Prop where
  rest : t.driveRest = s.driveRest
  acts : s.ActsAlone b t ∨ s.RunActs t

theorem State.RunActs.trans {s t u : State} (h : s.RunActs t) (h' : t.RunActs u) : s.RunActs u := by
  rcases h with ⟨hs, ht⟩ | ⟨hs, ht, hsame⟩ <;> rcases h' with ⟨ht', hu⟩ | ⟨ht', hu, hsame'⟩
  · exact .inl ⟨hs, hu⟩
  · exact .inl ⟨hs, hsame'.trans ht⟩
  · exact .inl ⟨hsame.symm.trans ht', hu⟩
  · exact .inr ⟨hs, hu, hsame'.trans hsame⟩

theorem State.RunActs.run_ne {s t : State} (h : s.RunActs t) : t.run ≠ s.run := by
  intro hrun
  rcases h with ⟨hs, ht⟩ | ⟨hs, ht, -⟩
  · rw [hrun, hs] at ht; cases ht
  · rw [hrun, hs] at ht; cases ht

/-- A bar on a drive line exists (02, section 2.4). -/
theorem barExists_of_onLine {line : DriveLine} {b : Nat} (h : onLine line b = true) : barExists b = true := by
  simp only [onLine, barExists, Bool.and_eq_true, decide_eq_true_eq] at h ⊢
  cases line <;> simp only [lineBase] at h <;> omega

/-- A link with the port of another differs from it by its notices and the mark of a lost one. -/
theorem Link.eq_of_port {l l' : Link} (h : l'.port = l.port) : l' = { l with notices := l'.notices, overflow := l'.overflow } := by
  cases l
  cases l'
  simp only [Link.port, Link.mk.injEq] at h ⊢
  simp [h]

namespace State.DriveStep

variable {b : Nat} {s t u : State}

theorem of_channels (hrest : t.driveRest = s.driveRest) (hrun : t.run = s.run) (hpermit : t.permitLine = s.permitLine)
    (hchannels : t.channels = s.channels) : DriveStep b s t :=
  ⟨hrest, .inl ⟨hrun, hpermit, fun x _ _ => State.channel_of_channels hchannels x⟩⟩

theorem refl (b : Nat) (s : State) : DriveStep b s s := of_channels rfl rfl rfl rfl

theorem trans (h : DriveStep b s t) (h' : DriveStep b t u) : DriveStep b s u := by
  refine ⟨h'.rest.trans h.rest, ?_⟩
  rcases h.acts with ⟨hrun, hpermit, hother⟩ | hacts <;> rcases h'.acts with ⟨hrun', hpermit', hother'⟩ | hacts'
  · exact .inl ⟨hrun'.trans hrun, hpermit'.trans hpermit, fun x hx hne => (hother' x hx hne).trans (hother x hx hne)⟩
  · refine .inr ?_
    rwa [State.RunActs, hrun] at hacts'
  · refine .inr ?_
    rwa [State.RunActs, ← hrun'] at hacts
  · exact .inr (hacts.trans hacts')

/-! ### The operations of a channel -/

theorem updChannel (hb : barExists b = true) (s : State) (f : Channel → Channel) : DriveStep b s (s.updChannel b f) := by
  refine ⟨rfl, .inl ⟨rfl, rfl, fun x hx hne => State.channel_updChannel_ne ?_ f⟩⟩
  simp only [barExists, Bool.and_eq_true, decide_eq_true_eq] at hb hx
  omega

theorem notify (b : Nat) (s : State) (r : Report) (detail subject : Nat) : DriveStep b s (s.notify r detail subject) :=
  of_channels (by simp [driveRest]) rfl rfl rfl

theorem notifyJogDone (b : Nat) (s : State) (o : JogOutcome) : DriveStep b s (s.notifyJogDone b o) := by
  unfold State.notifyJogDone
  split
  · exact refl b s
  · split
    · exact notify b s _ _ _
    · exact (of_channels rfl rfl rfl rfl : DriveStep b s s.draw).trans (notify b _ _ _ _)

theorem finishBar (b : Nat) (s : State) (o : RefOutcome) : DriveStep b s (s.finishBar b o) := by
  unfold State.finishBar
  split
  · exact refl b s
  · split
    · dsimp only
      split
      · exact (of_channels rfl rfl rfl rfl : DriveStep b s { s with referencing := none }).trans (notify b _ _ _ _)
      · exact of_channels rfl rfl rfl rfl
    · exact refl b s

theorem notifyView (b : Nat) (s : State) (before : DriveView) : DriveStep b s (s.notifyView b before) := by
  have hport (l : Link) (n : Notice) : (l.offerDriveChange n).port = l.port := by
    unfold Link.offerDriveChange
    split
    · rfl
    · exact l.port_offer n
  unfold State.notifyView
  dsimp only
  split
  · exact refl b s
  · split
    · exact refl b s
    · exact of_channels (by simp [driveRest, hport]) rfl rfl rfl

theorem endJog (hb : barExists b = true) (s : State) (o : JogOutcome) (f : Channel → Channel) :
    DriveStep b s (s.endJog b o f) := by
  unfold State.endJog
  split
  · exact (notifyJogDone b s o).trans (updChannel hb _ f)
  · exact refl b s

/-! ### The reports (09, R160, R161, R166, R167) -/

theorem failRequest (hrequested : s.run.requested = some .run) (cause : Cause) (detail bar : Nat) :
    DriveStep b s (s.failRequest cause detail bar) :=
  ⟨by simp [driveRest, State.failRequest], .inr (.inr ⟨hrequested, rfl, rfl⟩)⟩

theorem report (b : Nat) (s : State) (cause : Cause) (detail bar : Nat) : DriveStep b s (s.report cause detail bar) := by
  unfold State.report State.reportWith
  split
  next hstate =>
    exact ⟨by simp [driveRest, State.haltOn_run, State.haltOn_link], .inr (.inl ⟨hstate, by rw [State.haltOn_run]⟩)⟩
  next => exact notify b s _ _ _
  all_goals
    split
    next haligning =>
      have hrequested : s.run.requested = some .run := by
        simp only [Bool.and_eq_true, State.aligningToRun_iff] at haligning
        exact haligning.1.2
      exact ⟨by simp [driveRest, State.failAlignment, State.failRequest], .inr (.inr ⟨hrequested, rfl, rfl⟩)⟩
    next =>
      split
      next hwaiting =>
        have hrequested : s.run.requested = some .run := by
          simp only [State.waitingForRun, Bool.and_eq_true, beq_iff_eq] at hwaiting
          exact hwaiting.1.1.2
        exact failRequest hrequested cause detail bar
      next => exact refl b s

/-! ### The fault, the exchange and the status -/

theorem faultChannel (hb : barExists b = true) (s : State) (cause : Cause) (detail error : Nat) (compared : Int) :
    DriveStep b s (s.faultChannel b cause detail error compared) := by
  have hreport : DriveStep b s ((s.struck b).report cause detail b) :=
    (((notifyJogDone b s .fault).trans (updChannel hb _ toFaulted)).trans (finishBar b _ .barFault)).trans (report b _ _ _ _)
  rw [State.faultChannel_eq]
  split
  · exact hreport.trans (notify b _ _ _ _)
  · exact hreport

theorem faultUncompared (hb : barExists b = true) (s : State) (cause : Cause) (detail : Nat) :
    DriveStep b s (s.faultUncompared b cause detail) :=
  (of_channels rfl rfl rfl rfl : DriveStep b s s.draw).trans (faultChannel hb _ _ _ _ _)

theorem judgeMissing (hb : barExists b = true) (s : State) : DriveStep b s (s.judgeMissing b) := by
  unfold State.judgeMissing
  dsimp only
  split
  · split
    · exact (updChannel hb s _).trans (faultUncompared hb _ _ _)
    · exact (updChannel hb s _).trans (notifyView b _ _)
  · split
    · exact updChannel hb s _
    · exact refl b s

theorem expire (hb : barExists b = true) (s : State) (e : Expiry) : DriveStep b s (s.expire b e) := by
  cases e with
  | none => exact refl b s
  | enable => exact faultUncompared hb s _ _
  | energize | hold => exact updChannel hb s _
  | settle => exact endJog hb s _ _

theorem arrive (hb : barExists b = true) (s : State) (a : Arrival) : DriveStep b s (s.arrive b a) := by
  cases a with
  | none => exact refl b s
  | jog | alignment => exact updChannel hb s _
  | zero => exact (updChannel hb s _).trans (finishBar b _ _)

theorem exchangeBar (hb : barExists b = true) (s : State) : DriveStep b s (s.exchangeBar b) := by
  unfold State.exchangeBar
  split
  · exact refl b s
  · have hclock : DriveStep b s (s.advanceTo (s.channel b).exchangeAt) := of_channels rfl rfl rfl rfl
    have hbegin : DriveStep b s (s.beginExchange b) :=
      ((hclock.trans (judgeMissing hb _)).trans (updChannel hb _ _)).trans (expire hb _ _)
    exact (hbegin.trans (updChannel hb _ _)).trans (arrive hb _ _)

theorem referencingStatus (hb : barExists b = true) (s : State) (d : DriveStatus) : DriveStep b s (s.referencingStatus b d) := by
  have hnotFound : DriveStep b s (s.notFound b) := (updChannel hb s _).trans (finishBar b _ _)
  unfold State.referencingStatus
  dsimp only
  split
  · split
    · exact updChannel hb s _
    · split
      · exact hnotFound
      · exact refl b s
  · split
    · split
      · exact updChannel hb s _
      · exact hnotFound
    · split
      · exact hnotFound
      · exact refl b s
  · exact refl b s

theorem goodStatus (hb : barExists b = true) (s : State) (d : DriveStatus) : DriveStep b s (s.goodStatus b d) := by
  unfold State.goodStatus
  split
  · exact updChannel hb s _
  · exact referencingStatus hb s d
  · unfold State.joggingStatus
    split
    · split
      · exact endJog hb s _ _
      · exact refl b s
    · exact refl b s
  · exact refl b s

theorem takeStatus (hb : barExists b = true) (s : State) (d : DriveStatus) : DriveStep b s (s.takeStatus b d) := by
  have htaken := updChannel hb s (statusTaken d)
  unfold State.takeStatus
  dsimp only
  split
  · exact refl b s
  · split
    · split
      · exact htaken.trans (faultUncompared hb _ _ _)
      · split
        · exact htaken.trans (faultUncompared hb _ _ _)
        · split
          · exact htaken.trans (faultChannel hb _ _ _ _ _)
          · exact htaken.trans (goodStatus hb _ d)
    · exact htaken.trans (notifyView b _ _)

theorem receiveStatus {bytes : List Byte} {d : DriveStatus} (hread : parseStatus bytes = some (b, d)) (s : State)
    (line : DriveLine) : DriveStep b s (s.receiveStatus line bytes) := by
  rw [State.receiveStatus, hread]
  dsimp only
  split
  next hline => exact takeStatus (barExists_of_onLine hline) s d
  next => exact refl b s

end State.DriveStep

/-! ### The commands -/

/-- An event of a bar that goes on is one of a bar that exists (log 20). -/
theorem State.onBar_next {s t : State} {b : Nat} {f : State → State} (hq : s.Quiet) (h : s.onBar b f = .next t) :
    barExists b = true ∧ t = f s := by
  unfold State.onBar at h
  split at h
  next hb =>
    rw [State.goesOn, State.event_of_quiet hq] at h
    exact ⟨hb, (Host.Outcome.next.inj h).symm⟩
  next => cases h

theorem State.exchangeWhen_driveStep {s t : State} {b : Nat} {holds : State → Bool} (hq : s.Quiet)
    (h : s.exchangeWhen b holds = .next t) : State.DriveStep b s t := by
  obtain ⟨hb, rfl⟩ := State.onBar_next hq h
  split
  · exact State.DriveStep.exchangeBar hb s
  · exact State.DriveStep.refl b s

/-- Settles O59: every drive command is an exchange, a status or nothing at all. -/
theorem driveCommandsLeaveTheOtherBlocks : Obligations.DriveCommandsLeaveTheOtherBlocks := by
  intro c b s t hq hc ht
  have hstep : State.DriveStep b s t := by
    rcases hc with rfl | rfl | rfl | rfl | rfl | rfl | rfl | rfl | rfl | ⟨line, bytes, d, rfl, hread⟩
    · obtain ⟨hb, rfl⟩ := State.onBar_next hq ht
      exact State.DriveStep.exchangeBar hb s
    iterate 8 exact State.exchangeWhen_driveStep hq ht
    rw [exec_statusFrame hq] at ht
    cases ht
    exact State.DriveStep.receiveStatus hread s line
  obtain ⟨hrest, hacts⟩ := hstep
  simp only [State.driveRest, DriveRest.mk.injEq] at hrest
  obtain ⟨hpending, hpower, htracker, hmachine, hprofiles, hassign, hstore, hplayer, hlists, hport, hbad, hpeak, hcause⟩ := hrest
  refine ⟨hpending, hpower, htracker, hmachine, hprofiles, hassign, hstore, hplayer, hlists, ?_, hbad, hpeak, hcause,
    fun hrun => ?_⟩
  · exact Link.eq_of_port hport
  · rcases hacts with ⟨-, hpermit, hother⟩ | hacts
    · exact ⟨hpermit, hother⟩
    · exact absurd hrun hacts.run_ne

end Sys2Proof.Machine
end

section
/-! PROOF. REFERENCE, JOG and ALLOWANCE_TIMEOUT (08, R138 to R140, R145, R147 to R149): the two tables row by row, the channels that
start to move, and the referencing that runs out of time. -/

namespace Sys2Proof.Machine

/-! ### Bar sets (00, Conventions) -/

theorem mem_allBars_iff {b : Nat} : b ∈ allBars ↔ barExists b = true := by
  simp only [allBars, barExists, List.mem_range'_1, Bool.and_eq_true, decide_eq_true_eq]
  omega

theorem mem_barsOf_iff {m : BarSet} {b : Nat} : b ∈ barsOf m ↔ barExists b = true ∧ inSet m b = true := by
  rw [barsOf, List.mem_filter, mem_allBars_iff]

theorem barsOf_sorted (m : BarSet) : (barsOf m).Pairwise (· < ·) :=
  List.Pairwise.filter _ List.pairwise_lt_range'

theorem ne_zero_of_inSet {m : BarSet} {b : Nat} (h : inSet m b = true) : m ≠ 0 := by
  rintro rfl
  simp [inSet] at h

/-- The lowest bar of a set that satisfies `p` is found. -/
theorem find?_barsOf_eq_some {m : BarSet} {p : Nat → Bool} {b : Nat} (hb : barExists b = true) (hin : inSet m b = true)
    (hp : p b = true) (hlowest : ∀ y, barExists y = true → y < b → inSet m y = true → p y = false) :
    (barsOf m).find? p = some b := by
  rw [List.find?_eq_findSome?_guard]
  refine findSome?_eq_of_lowest (barsOf_sorted m) (mem_barsOf_iff.mpr ⟨hb, hin⟩) (by simp [hp]) fun y hy hlt => ?_
  obtain ⟨hexists, hyin⟩ := mem_barsOf_iff.mp hy
  simp [hlowest y hexists hlt hyin]

theorem find?_barsOf_eq_none {m : BarSet} {p : Nat → Bool}
    (h : ∀ b, barExists b = true → inSet m b = true → p b = false) : (barsOf m).find? p = none := by
  refine List.find?_eq_none.mpr fun b hb => ?_
  obtain ⟨hexists, hin⟩ := mem_barsOf_iff.mp hb
  simp [h b hexists hin]

/-! ### What is due when a channel starts to move (09, R160) -/

/-- Channels that have begun to move are not at rest, so a machine that is fit with them was fit before. -/
theorem State.fitForRun_of_moving {s t : State} (ht : t = { s with channels := t.channels, referencing := t.referencing })
    (hrest : ∀ b, barExists b = true → (t.channel b).state.holding = true → t.channel b = s.channel b)
    (hfit : t.fitForRun = true) : s.fitForRun = true := by
  rw [ht] at hfit
  simp only [State.fitForRun, Bool.and_eq_true, List.all_eq_true] at hfit ⊢
  obtain ⟨⟨⟨⟨hshaft, hbars⟩, hcurrent⟩, hangle⟩, hsearch⟩ := hfit
  refine ⟨⟨⟨⟨hshaft, fun b hb => ?_⟩, hcurrent⟩, hangle⟩, hsearch⟩
  obtain ⟨hholding, hreferenced⟩ : (t.channel b).state.holding = true ∧ (t.channel b).referenced = true := hbars b hb
  rw [← hrest b (mem_allBars_iff.mp (List.mem_filter.mp hb).1) hholding]
  exact ⟨hholding, hreferenced⟩

/-- Where nothing is changing, channels that begin to move make nothing due. -/
theorem State.dueStep_of_moving {s t : State} (ht : t = { s with channels := t.channels, referencing := t.referencing })
    (hc : s.run.changing = false)
    (hrest : ∀ b, barExists b = true → (t.channel b).state.holding = true → t.channel b = s.channel b)
    (h : s.dueStep = none) : t.dueStep = none := by
  have hrun : t.run = s.run := by rw [ht]
  have htracker : t.tracker = s.tracker := by rw [ht]
  revert h
  unfold State.dueStep
  rw [hrun, htracker, hc]
  split
  case h_1 | h_2 => contradiction
  case h_3 =>
    refine fun hnone => if_neg fun hfit => ?_
    rw [if_pos (State.fitForRun_of_moving ht hrest hfit)] at hnone
    cases hnone
  all_goals exact id

/-! ### REFERENCE (08, R138 to R140) -/

theorem ChannelState.holding_eq_false_iff {x : ChannelState} : x.holding = false ↔ x ≠ .idle ∧ x ≠ .idleReduced := by
  cases x <;> simp [ChannelState.holding]

theorem ChannelState.holding_iff {x : ChannelState} : x.holding = true ↔ x = .idle ∨ x = .idleReduced := by
  cases x <;> simp [ChannelState.holding]

/-- A channel that starts its referencing or energizes for it is not at rest. -/
theorem startReferencing_holding (c : Channel) : (startReferencing c).state.holding = false := by
  unfold startReferencing
  split <;> rfl

/-- What a selected channel begins with (08, R140). -/
theorem startReferencing_starts (c : Channel) :
    (startReferencing c).referenced = false ∧ (startReferencing c).refPoint = none ∧ (startReferencing c).lastTarget = 0 ∧
    (if c.state = .idle then (startReferencing c).state = .referencing
      else (startReferencing c).state = .energizing ∧ (startReferencing c).pendingMove = some .referencing ∧
        (startReferencing c).energizeTimer = some 0) := by
  unfold startReferencing
  split
  · exact ⟨rfl, rfl, rfl, rfl⟩
  · exact ⟨rfl, rfl, rfl, rfl, rfl, rfl⟩

theorem State.channel_startReference {s : State} {b : Nat} (hb : barExists b = true) (hs : s.channels.length = 64)
    (bars : BarSet) (ext : Nat) :
    (s.startReference bars ext).channel b = if inSet bars b then startReferencing (s.channel b) else s.channel b :=
  State.channel_mapChannels (by simp [barExists] at hb; omega) (place_lt_of_barExists hb hs) _

theorem State.dueStep_startReference {s : State} (hs : s.channels.length = 64) (hc : s.run.changing = false)
    (bars : BarSet) (ext : Nat) (h : s.dueStep = none) : (s.startReference bars ext).dueStep = none := by
  refine State.dueStep_of_moving (s := s) (t := s.startReference bars ext) rfl hc (fun b hb hholding => ?_) h
  rw [State.channel_startReference hb hs] at hholding ⊢
  split
  next hin => simp [hin, startReferencing_holding] at hholding
  next => rfl

section

variable {s : State} {bars : BarSet} {ext : Nat}

theorem State.reference_of_elsewhere (h : s.run.state ≠ .hold) : s.reference bars ext = (s, refuse .wrongState) :=
  if_pos h

variable (hh : s.run.state = .hold)
include hh

theorem State.reference_of_busy (h : s.run.changing = true ∨ s.referencing.isSome = true) :
    s.reference bars ext = (s, refuse .busy) := by
  rcases h with h | h <;> simp [State.reference, hh, h]

variable (hc : s.run.changing = false) (hr : s.referencing = none)
include hc hr

theorem State.reference_of_turning (h : s.tracker.stopped = false) : s.reference bars ext = (s, refuse .shaftMoving) := by
  simp [State.reference, hh, hc, hr, h]

variable (hstopped : s.tracker.stopped = true)
include hstopped

theorem State.reference_of_none : s.reference 0 ext = (s, badField 0) := by
  simp [State.reference, hh, hc, hr, hstopped]

variable (hbars : bars ≠ 0)
include hbars

theorem State.reference_of_unassigned {b : Nat} (h : (barsOf bars).find? (fun b => !s.assigned b) = some b) :
    s.reference bars ext = (s, ⟨.badField, [byteOf 0, byteOf b]⟩) := by
  simp only [State.reference, hh, hc, hr, hstopped, if_neg hbars, h]
  rfl

variable (hassigned : (barsOf bars).find? (fun b => !s.assigned b) = none)
include hassigned

theorem State.reference_of_moving {b : Nat} (h : (barsOf bars).find? (fun b => !(s.channel b).state.holding) = some b) :
    s.reference bars ext = (s, ⟨.busy, [byteOf b, byteOf (channelCode (s.channel b).state)]⟩) := by
  simp only [State.reference, hh, hc, hr, hstopped, if_neg hbars, hassigned, h]
  rfl

theorem State.reference_of_good (h : (barsOf bars).find? (fun b => !(s.channel b).state.holding) = none) :
    s.reference bars ext = (s.startReference bars ext, accept (beBytes 2 (10 + ext))) := by
  simp only [State.reference, hh, hc, hr, hstopped, if_neg hbars, hassigned, h]
  rfl

end

/-- A REFERENCE whose bars all hold is accepted, and their channels start (08, R138, R140). -/
theorem exec_reference_of_good {s : State} {bars : BarSet} (tag : Tag) (ext : Nat) (hq : s.Quiet) (hp : s.PortFree)
    (hs : s.channels.length = 64) (hh : s.run.state = .hold) (hc : s.run.changing = false)
    (hr : s.referencing = none) (hstopped : s.tracker.stopped = true) (hbars : bars ≠ 0)
    (hready : ∀ x ∈ barsOf bars, s.assigned x = true ∧ (s.channel x).state.holding = true) :
    ∃ t, exec (.reference tag bars ext) s = .next t ∧
      t.referencing = some ⟨bars, bars, 0, 0, s.now, 10 + ext⟩ ∧
      (∀ x, barExists x = true → t.channel x = if inSet bars x then startReferencing (s.channel x) else s.channel x) ∧
      ∃ room flags, t.link.tx = some ⟨tag, 0xD0, [0x00, room, flags, 0] ++ beBytes 2 (10 + ext)⟩ := by
  have hassigned : (barsOf bars).find? (fun x => !s.assigned x) = none :=
    List.find?_eq_none.mpr fun x hx => by simp [(hready x hx).1]
  have hholding : (barsOf bars).find? (fun x => !(s.channel x).state.holding) = none :=
    List.find?_eq_none.mpr fun x hx => by simp [(hready x hx).2]
  exact ⟨_, exec_accepted (r := .reference bars ext) rfl hq hp
    (State.reference_of_good (s := s.taken tag _) hh hc hr hstopped hbars hassigned hholding)
    (State.dueStep_startReference (s := s.taken tag _) hs hc bars ext hq.2.2), rfl,
    fun x hx => State.channel_startReference (s := s.taken tag _) hx hs bars ext, _, _, rfl⟩

/-! ### JOG (08, R148, R149) -/

/-- A channel that starts its jog or energizes for it is not at rest. -/
theorem startJog_holding (p : Profile) (j : Jog) (c : Channel) : (startJog p j c).state.holding = false := by
  unfold startJog
  dsimp only
  split <;> rfl

/-- What a channel holds of its jog, and the setpoint and reference that it keeps (08, R149). -/
theorem startJog_starts (p : Profile) (j : Jog) (c : Channel) :
    (startJog p j c).jog = some j ∧ (startJog p j c).move = some (timedMove p c.setpoint j.coord) ∧
    (startJog p j c).referenced = c.referenced ∧ (startJog p j c).setpoint = c.setpoint ∧
    (if c.state = .idle then (startJog p j c).state = .jogging
      else (startJog p j c).state = .energizing ∧ (startJog p j c).pendingMove = some .jog) := by
  unfold startJog
  dsimp only
  split
  · exact ⟨rfl, rfl, rfl, rfl, rfl⟩
  · exact ⟨rfl, rfl, rfl, rfl, rfl, rfl⟩

theorem State.dueStep_updChannel_startJog {s : State} {b : Nat} (hb : barExists b = true) (hs : s.channels.length = 64)
    (hc : s.run.changing = false) (p : Profile) (j : Jog) (h : s.dueStep = none) :
    (s.updChannel b (startJog p j)).dueStep = none := by
  refine State.dueStep_of_moving (s := s) (t := s.updChannel b (startJog p j)) rfl hc (fun x hx hholding => ?_) h
  by_cases hxb : x = b
  · subst hxb
    rw [State.channel_updChannel (place_lt_of_barExists hb hs), startJog_holding] at hholding
    cases hholding
  · refine State.channel_updChannel_ne (fun hplace => hxb ?_) _
    simp only [barExists, Bool.and_eq_true, decide_eq_true_eq] at hb hx
    omega

section

variable {s : State} {b k : Nat}

theorem State.jog_of_elsewhere (h : s.run.state ≠ .hold) : s.jog b k = (s, refuse .wrongState) :=
  if_pos h

variable (hh : s.run.state = .hold)
include hh

theorem State.jog_of_busy (hc : s.run.changing = true) : s.jog b k = (s, refuse .busy) := by
  simp [State.jog, hh, hc]

variable (hc : s.run.changing = false)
include hc

theorem State.jog_of_turning (h : s.tracker.stopped = false) : s.jog b k = (s, refuse .shaftMoving) := by
  simp [State.jog, hh, hc, h]

variable (hstopped : s.tracker.stopped = true)
include hstopped

theorem State.jog_of_noBar (h : barExists b = false) : s.jog b k = (s, badField 0) := by
  simp [State.jog, hh, hc, hstopped, h]

variable (hb : barExists b = true)
include hb

theorem State.jog_of_unreferenced (h : (s.channel b).referenced = false) : s.jog b k = (s, refuse .notReferenced) := by
  simp [State.jog, hh, hc, hstopped, hb, h]

variable (href : (s.channel b).referenced = true)
include href

theorem State.jog_of_moving (h : (s.channel b).state.holding = false) :
    s.jog b k = (s, ⟨.busy, [byteOf (channelCode (s.channel b).state)]⟩) := by
  simp [State.jog, hh, hc, hstopped, hb, href, h]

variable (hholding : (s.channel b).state.holding = true)
include hholding

theorem State.jog_of_notice (h : ∃ n ∈ s.link.notices, n.jogDoneBar = some b) : s.jog b k = (s, refuse .noticePending) := by
  simp [State.jog, hh, hc, hstopped, hb, href, hholding, h]

variable (hnotice : ∀ n ∈ s.link.notices, n.jogDoneBar ≠ some b)
include hnotice

theorem State.jog_of_beyond (h : (s.profile b).travel < k) : s.jog b k = (s, refuse .badPosition) := by
  have hnone : ¬∃ n ∈ s.link.notices, n.jogDoneBar = some b := fun ⟨n, hn, hbar⟩ => hnotice n hn hbar
  simp [State.jog, hh, hc, hstopped, hb, href, hholding, hnone, h]

theorem State.jog_of_good (h : k ≤ (s.profile b).travel) :
    s.jog b k = (s.updChannel b (startJog (s.profile b) (s.jogOf b k)), accept (beBytes 4 (s.jogOf b k).time)) := by
  have hnone : ¬∃ n ∈ s.link.notices, n.jogDoneBar = some b := fun ⟨n, hn, hbar⟩ => hnotice n hn hbar
  simp [State.jog, hh, hc, hstopped, hb, href, hholding, hnone, Nat.not_lt.mpr h]

end

/-- A JOG of a referenced bar at rest to an index within its travel is accepted, and its channel starts (08, R149). -/
theorem exec_jog_of_good {s : State} {b k : Nat} (tag : Tag) (hq : s.Quiet) (hp : s.PortFree) (hs : s.channels.length = 64)
    (hh : s.run.state = .hold) (hc : s.run.changing = false) (hstopped : s.tracker.stopped = true)
    (hb : barExists b = true) (href : (s.channel b).referenced = true) (hholding : (s.channel b).state.holding = true)
    (hnotice : ∀ n ∈ s.link.notices, n.jogDoneBar ≠ some b) (hk : k ≤ (s.profile b).travel) :
    ∃ t, exec (.jog tag b k) s = .next t ∧
      t.channel b = startJog (s.profile b) (s.jogOf b k) (s.channel b) ∧
      ∃ room flags, t.link.tx = some ⟨tag, 0xD1, [0x00, room, flags, 0] ++ beBytes 4 (s.jogOf b k).time⟩ :=
  ⟨_, exec_accepted (r := .jog b k) rfl hq hp
    (State.jog_of_good (s := s.taken tag _) hh hc hstopped hb href hholding hnotice hk)
    (State.dueStep_updChannel_startJog (s := s.taken tag _) hb hs hc _ _ hq.2.2),
    State.channel_updChannel (s := s.taken tag _) (place_lt_of_barExists hb hs) _, _, _, rfl⟩

/-! ### The allowance's end (08, R145, R147) -/

theorem exec_allowanceTimeout {s : State} (hq : s.Quiet) : exec .allowanceTimeout s = .next s.expireAllowance :=
  congrArg Host.Outcome.next (State.event_of_quiet hq _)

/-- The referencing that runs out of time (08, R145). -/
theorem State.expireAllowance_spec {s : State} (hs : s.channels.length = 64) {r : Referencing} (hr : s.referencing = some r) :
    s.expireAllowance.referencing = none ∧
    s.expireAllowance.now = max s.now (r.startedAt + 1000000 * r.seconds) ∧
    s.expireAllowance.link = s.link.offer
      ⟨.referenceDone r.found, r.outcomes ||| 0x02, (barsOf r.selected).length, s.currentTag, s.tracker.angle⟩ ∧
    ∀ x, barExists x = true → s.expireAllowance.channel x =
      if inSet r.remaining x then toIdle s.machine (unreferenced (s.channel x)) else s.channel x := by
  have hexpires : s.expireAllowance = (s.advanceTo (r.startedAt + 1000000 * r.seconds)).finishRemaining .timeout
      fun c => toIdle s.machine (unreferenced c) := by
    rw [State.expireAllowance, hr]
  have hreferencing : (s.advanceTo (r.startedAt + 1000000 * r.seconds)).referencing = some r := hr
  obtain ⟨hframe, -, hchannels, hlink⟩ :=
    State.finishRemaining_spec (s := s.advanceTo (r.startedAt + 1000000 * r.seconds)) hs .timeout
      fun c => toIdle s.machine (unreferenced c)
  rw [← hexpires] at hframe hchannels hlink
  rw [hreferencing] at hlink
  refine ⟨congrArg State.referencing hframe, congrArg State.now hframe, hlink, fun x hx => ?_⟩
  have hremains : (s.advanceTo (r.startedAt + 1000000 * r.seconds)).remains x = inSet r.remaining x := by
    rw [State.remains, hreferencing]
  rw [hchannels x hx, hremains]
  rfl

/-! ### The statement -/

/-- Settles O46: the rows of the two tables in their order, each refused on the part as it took the request; the two starts; and the
end of what remains of a referencing. -/
theorem referenceAndJogStartTheirMoves : Obligations.ReferenceAndJogStartTheirMoves := by
  refine ⟨fun tag bars ext b k s hq hs => ⟨fun hp hh hc hstopped => ⟨fun hr hbars hready => ?_,
    fun hb href hholding hnotice hk => ?_⟩, fun r hr => ?_⟩, fun tag bars ext b k s hq hp => ?_⟩
  · obtain ⟨t, hexec, hrecord, hchannels, hreply⟩ :=
      exec_reference_of_good tag ext hq hp hs.1 hh hc hr hstopped hbars hready
    refine ⟨t, hexec, hrecord, fun x hx => ?_, hreply⟩
    rw [hchannels x hx]
    split
    · exact startReferencing_starts (s.channel x)
    · rfl
  · intro coord time
    obtain ⟨t, hexec, hchannel, hreply⟩ := exec_jog_of_good tag hq hp hs.1 hh hc hstopped hb href hholding hnotice hk
    obtain ⟨hjog, hmove, hreferenced, hsetpoint, hstate⟩ := startJog_starts (s.profile b) (s.jogOf b k) (s.channel b)
    refine ⟨t, hexec, ?_⟩
    rw [hchannel]
    exact ⟨hjog, hmove, hreferenced.trans href, hsetpoint, hstate, hreply⟩
  · obtain ⟨hdone, hnow, hlink, hchannels⟩ := State.expireAllowance_spec hs.1 hr
    refine ⟨_, exec_allowanceTimeout hq, hdone, hnow, hlink, fun x hx => ?_⟩
    rw [hchannels x hx]
    split
    · exact ⟨rfl, rfl, rfl, rfl⟩
    · rfl
  · intro code reference jog
    have hcode (x : ChannelState) : byteOf (channelCode x) = code x := by cases x <;> rfl
    have hreference {a : Answer} (h : (s.taken tag (.reference bars ext)).reference bars ext =
        (s.taken tag (.reference bars ext), a)) : reference a.result a.payload :=
      exec_refused (r := .reference bars ext) rfl hq hp h
    have hjog {a : Answer} (h : (s.taken tag (.jog b k)).jog b k = (s.taken tag (.jog b k), a)) : jog a.result a.payload :=
      exec_refused (r := .jog b k) rfl hq hp h
    refine ⟨fun hh => ⟨hreference (State.reference_of_elsewhere hh), hjog (State.jog_of_elsewhere hh)⟩,
      fun hh hc => ⟨hreference (State.reference_of_busy hh (.inl hc)), hjog (State.jog_of_busy hh hc)⟩,
      fun hh hc => ⟨fun hr => hreference (State.reference_of_busy hh (.inr hr)), fun hr => ⟨fun hturns => ?_,
        fun hstopped => ⟨?_, fun x hx hin hout hlowest => ?_, fun x hx hin hidle hreduced hassigned hlowest => ?_⟩⟩,
        fun hturns => ?_, fun hstopped => ⟨fun hout => ?_, fun h1 h64 => ?_⟩⟩⟩
    · exact hreference (State.reference_of_turning hh hc hr hturns)
    · rintro rfl
      exact hreference (State.reference_of_none hh hc hr hstopped)
    · exact hreference (State.reference_of_unassigned (s := s.taken tag _) hh hc hr hstopped (ne_zero_of_inSet hin)
        (find?_barsOf_eq_some hx hin (congrArg not hout) fun y hy hyx hyin => congrArg not (hlowest y hy hyx hyin)))
    · have hmoves := ChannelState.holding_eq_false_iff.mpr ⟨hidle, hreduced⟩
      rw [← hcode]
      exact hreference (State.reference_of_moving (s := s.taken tag _) hh hc hr hstopped (ne_zero_of_inSet hin)
        (find?_barsOf_eq_none fun y hy hyin => congrArg not (hassigned y hy hyin))
        (find?_barsOf_eq_some hx hin (congrArg not hmoves) fun y hy hyx hyin =>
          congrArg not (ChannelState.holding_iff.mpr (hlowest y hy hyx hyin))))
    · exact hjog (State.jog_of_turning hh hc hturns)
    · have hnone : barExists b = false := by
        simp only [barExists, Bool.and_eq_false_iff, decide_eq_false_iff_not]
        omega
      exact hjog (State.jog_of_noBar hh hc hstopped hnone)
    · have hb : barExists b = true := by simp [barExists, h1, h64]
      refine ⟨fun href => hjog (State.jog_of_unreferenced hh hc hstopped hb href), fun href => ⟨fun hidle hreduced => ?_,
        fun hrests => ⟨fun hnotice => ?_, fun hnotice hk => ?_⟩⟩⟩
      · rw [← hcode]
        exact hjog (State.jog_of_moving (s := s.taken tag _) hh hc hstopped hb href
          (ChannelState.holding_eq_false_iff.mpr ⟨hidle, hreduced⟩))
      · exact hjog (State.jog_of_notice (s := s.taken tag _) hh hc hstopped hb href (ChannelState.holding_iff.mpr hrests)
          hnotice)
      · exact hjog (State.jog_of_beyond (s := s.taken tag _) hh hc hstopped hb href (ChannelState.holding_iff.mpr hrests)
          hnotice hk)

end Sys2Proof.Machine
end

section
/-! PROOF. Every step keeps the request flags, the published permit and the lists sound (09, R152 to R154, R160, R163; 05, R73).
`State.Controlled` holds what is kept. It looks at the run controller and the lists alone, and a recomputation of the permit always
publishes what R154 allows, so that an operation has a lemma here where it sets a flag or moves the lists. The start of an alignment
keeps the flags only where a request toward RUN waits: the walk along the commands is one for steps that are due. -/

namespace Sys2Proof.Machine

-- One declaration at a time: many at once would each hold a thread's stack.
set_option Elab.async false

/-! ### The lists within their places (05, R73) -/

/-- The lists keep within their places, and nothing stands behind a current record that is missing. -/
def Lists.Sound (l : Lists) : Prop :=
  l.queue.length ≤ Config.queueRoom ∧ l.history.length + l.replay.length ≤ Config.historyRoom ∧
  (l.current = none → l.history = [] ∧ l.replay = [] ∧ l.queue = [])

theorem Lists.cleared_sound (l : Lists) : l.cleared.Sound := ⟨Nat.zero_le _, Nat.zero_le _, fun _ => ⟨rfl, rfl, rfl⟩⟩

namespace Lists.Sound

variable {l : Lists} (h : l.Sound)
include h

/-- A record that becomes current takes no place of the others. -/
theorem withCurrent (r : CourseRecord) : Lists.Sound { l.clearMarks with current := some r } := ⟨h.1, h.2.1, nofun⟩

theorem modifyLastRecord (f : CourseRecord → CourseRecord) : (l.modifyLastRecord f).Sound := by
  obtain ⟨hqueue, hpast, hempty⟩ := h
  unfold Lists.modifyLastRecord
  split
  next hq => exact ⟨by simpa using hqueue, hpast, fun hc => absurd (hempty hc).2.2 hq⟩
  next =>
    split
    next hr => exact ⟨hqueue, by simpa using hpast, fun hc => absurd (hempty hc).2.1 hr⟩
    next => exact ⟨hqueue, hpast, fun hc => hempty (by simpa using hc)⟩

/-- A record joins the queue where a record is current and a place is free (R74). -/
theorem join (hc : l.current ≠ none) (hroom : l.queue.length < Config.queueRoom) (r : CourseRecord) :
    Lists.Sound { l with queue := l.queue ++ [r] } :=
  ⟨by simpa using hroom, h.2.1, fun hnone => absurd hnone hc⟩

/-- A step forward takes from the replay stack what it gives to the history, or drops the oldest record (R76). -/
theorem stepForward (c next : CourseRecord) : (l.stepForward c next).Sound := by
  obtain ⟨hqueue, hpast, -⟩ := h
  refine ⟨?_, ?_, nofun⟩
  · simp only [Lists.stepForward]
    split
    · rw [List.length_tail]; omega
    · exact hqueue
  · simp only [Lists.stepForward]
    split
    next hr =>
      simp only [hr, List.tail_nil, List.length_nil, joinHistory, List.length_drop]
      omega
    next hr =>
      have hpos : 0 < l.replay.length := List.length_pos_of_ne_nil hr
      simp only [List.length_append, List.length_singleton, List.length_tail]
      omega

/-- A step backward takes from the history what it gives to the replay stack (R77). -/
theorem stepBackward (hh : l.history ≠ []) (c newest : CourseRecord) : (l.stepBackward c newest).Sound := by
  obtain ⟨hqueue, hpast, -⟩ := h
  have hpos : 0 < l.history.length := List.length_pos_of_ne_nil hh
  refine ⟨hqueue, ?_, nofun⟩
  simp only [Lists.stepBackward, List.length_dropLast, List.length_cons]
  omega

theorem flushed : l.flushed.Sound := by
  obtain ⟨hqueue, hpast, hempty⟩ := h
  unfold Lists.flushed
  split
  · split
    next r rest hr =>
      simp only [hr, List.length_cons] at hpast
      refine ⟨Nat.zero_le _, ?_, fun hc => ?_⟩
      · simp only [List.length_singleton]; omega
      · simp [hr] at hempty; exact absurd hc hempty
    next hr =>
      refine ⟨?_, hpast, fun hc => ?_⟩
      · simp only [List.length_take]; omega
      · obtain ⟨hhistory, hreplay, hq⟩ := hempty hc
        exact ⟨hhistory, hreplay, by rw [hq]; rfl⟩
  · refine ⟨Nat.zero_le _, ?_, fun hc => ⟨(hempty hc).1, rfl, rfl⟩⟩
    simp only [List.length_nil]; omega

theorem flush : l.flush.Sound := by
  unfold Lists.flush
  dsimp only
  split
  · exact h
  · rw [Lists.resumeStream_frame]
    exact h.flushed.modifyLastRecord _

theorem endStream : l.endStream.Sound := h.modifyLastRecord _

end Lists.Sound

/-! ### The permit that is published (09, R154) -/

theorem State.publish_permitSound (s : State) : s.publish.PermitSound := by
  rw [State.PermitSound, State.publish_run, State.publish_published]
  intro hs
  rcases hs with hs | hs
  · exact if_neg (by simp [show s.run.state ≠ .run from hs])
  · exact if_neg (by simp [show s.run.waiting = true from hs])

theorem State.replan_permitSound (s : State) : s.replan.PermitSound := State.publish_permitSound _

theorem State.append_permitSound (s : State) (tag : Tag) (origin : Origin) (cap : Option Nat) (laps : List RawLap) :
    (s.append tag origin cap laps).PermitSound := by
  unfold State.append
  dsimp only
  split <;> exact State.replan_permitSound _

/-- A feed does nothing, stops, or adds a course, after which a recorded switch may take effect (04, R59 to R62). -/
theorem State.feedOne_cases (s : State) :
    s.feedOne = s ∨ (∃ step bar position, s.feedOne = s.stopFeed step bar position) ∨
    ∃ table step, s.feedOne = s.fedCourse table step ∨ ∃ mode, s.feedOne = (s.fedCourse table step).takeSwitch mode := by
  unfold State.feedOne
  split
  · exact .inl rfl
  · split
    · exact .inl rfl
    · split
      · exact .inr (.inl ⟨_, _, _, rfl⟩)
      · exact .inr (.inr ⟨_, _, State.feedCourse_cases⟩)

theorem State.feed_permitSound {s : State} (h : s.PermitSound) : s.feed.PermitSound := by
  have hfed (u : State) (table : List SeqStep) (step : SeqStep) : (u.fedCourse table step).PermitSound :=
    u.append_permitSound _ _ _ _
  have hone {u : State} (hu : u.PermitSound) : u.feedOne.PermitSound := by
    rcases u.feedOne_cases with e | ⟨_, _, _, e⟩ | ⟨table, step, e | ⟨mode, e⟩⟩ <;> rw [e]
    · exact hu
    · exact hu
    · exact hfed u table step
    · simpa [State.PermitSound] using hfed u table step
  unfold State.feed
  induction Config.queueRoom + 1 generalizing s with
  | zero => exact h
  | succ n ih =>
    unfold State.feedUpTo
    split
    · exact ih (hone h)
    · exact h

/-! ### One rule for each update of the run controller and of the lists -/

/-- What every step keeps of the run controller and the lists. -/
structure State.Controlled (s : State) : Prop where
  flags : s.RequestSound
  permit : s.PermitSound
  lists : s.lists.Sound

/-- A run state entered leaves nothing requested (R159, R162, R164, R165). -/
theorem State.enter_requestSound (s : State) (next : RunState) : (s.enter next).RequestSound := by
  simp [State.RequestSound, State.enter]

/-- An alignment starts where a request toward RUN waits alone (R160). -/
theorem State.waits_of_dueStep {s : State} (h : s.dueStep = some .alignmentStart) : s.run.requested = some .run := by
  unfold State.dueStep at h
  split at h
  case h_3 => assumption
  all_goals simp at h

namespace State.Controlled

variable {s t : State}

theorem of_same (h : s.Controlled) (hrun : t.run = s.run := by rfl) (hlists : t.lists = s.lists := by rfl) :
    t.Controlled := by
  obtain ⟨hrequest, hpermit, hsound⟩ := h
  exact ⟨by rwa [State.RequestSound, hrun], by rwa [State.PermitSound, hrun], hlists ▸ hsound⟩

theorem notify (h : s.Controlled) (r : Report) (detail subject : Nat) : (s.notify r detail subject).Controlled := h.of_same

theorem permitDue (h : s.Controlled) : s.permitDue.Controlled := h.of_same

theorem updTracker (h : s.Controlled) (f : Tracker → Tracker) : (s.updTracker f).Controlled := h.of_same

theorem updPlayer (h : s.Controlled) (f : Player → Player) : (s.updPlayer f).Controlled := h.of_same

theorem mapChannels (h : s.Controlled) (f : Nat → Channel → Channel) : (s.mapChannels f).Controlled := h.of_same

theorem publish (hr : s.RequestSound) (hl : s.lists.Sound) : s.publish.Controlled :=
  ⟨by rw [State.RequestSound, State.publish_run]; exact hr, s.publish_permitSound, by simpa using hl⟩

theorem replan (hr : s.RequestSound) (hl : s.lists.Sound) : s.replan.Controlled :=
  publish (s := { s with planner := planOf s.machine s.lists }) hr hl

theorem updLists (h : s.Controlled) {f : Lists → Lists} (hf : (f s.lists).Sound) : (s.updLists f).Controlled :=
  ⟨h.flags, h.permit, hf⟩

/-- The lists move, and the permit is recomputed. -/
theorem relisted (h : s.Controlled) {f : Lists → Lists} (hf : (f s.lists).Sound) : (s.updLists f).replan.Controlled :=
  replan (s := s.updLists f) h.flags hf

/-- A request that ends leaves nothing requested (R157, R171). -/
theorem unrequested (h : s.Controlled) : (s.updRun fun r =>
    { r with waiting := false, changing := false, requested := none }).Controlled :=
  ⟨s.enter_requestSound s.run.state, fun hs => h.permit (hs.imp_right nofun), h.lists⟩

/-! ### The reports and the ends of motions -/

theorem failRequest (h : s.Controlled) (cause : Cause) (detail bar : Nat) : (s.failRequest cause detail bar).Controlled :=
  h.unrequested.of_same

theorem failAlignment (h : s.Controlled) (cause : Cause) (detail bar : Nat) :
    (s.failAlignment cause detail bar).Controlled :=
  h.unrequested.of_same

/-- A wait goes on through a halt, and its permit is 0 before and after (R167). -/
theorem haltOn (h : s.Controlled) (cause : Cause) (detail bar : Nat) (speed : Option Nat) (peak : Nat) :
    (s.haltOn cause detail bar speed peak).Controlled := by
  obtain ⟨⟨hone, hrequested, -⟩, -, hlists⟩ := h
  have halted := replan (s := s.updRun fun r => { r with
    state := .halt, halt := some ⟨cause, detail, bar, s.currentTag, s.tracker.angle, s.tracker.speed⟩ })
    ⟨hone, hrequested, fun _ => nofun⟩ hlists
  exact halted.of_same (by simp [State.haltOn]) (by simp)

theorem reportWith (h : s.Controlled) (cause : Cause) (detail bar : Nat) (speed : Option Nat) (peak : Nat) :
    (s.reportWith cause detail bar speed peak).Controlled := by
  unfold State.reportWith
  split
  · exact h.haltOn cause detail bar speed peak
  · exact h.of_same
  all_goals
    split
    · exact h.failAlignment cause detail bar
    · split
      · exact h.failRequest cause detail bar
      · exact h

theorem report (h : s.Controlled) (cause : Cause) (detail bar : Nat) : (s.report cause detail bar).Controlled :=
  h.reportWith cause detail bar _ _

theorem faultChannel (h : s.Controlled) (b : Nat) (cause : Cause) (detail error : Nat) (compared : Int) :
    (s.faultChannel b cause detail error compared).Controlled := by
  have hstruck : (s.struck b).Controlled := h.of_same (by simp [State.struck]) (by simp [State.struck])
  have hreport := hstruck.report cause detail b
  rw [State.faultChannel_eq]
  split
  · exact hreport.of_same
  · exact hreport

theorem faultUncompared (h : s.Controlled) (b : Nat) (cause : Cause) (detail : Nat) :
    (s.faultUncompared b cause detail).Controlled :=
  (h.of_same : s.draw.Controlled).faultChannel b cause detail 0 _

theorem shaftMoved (h : s.Controlled) : s.shaftMoved.Controlled := by
  have hended : s.restless.Controlled := h.of_same (by simp [State.restless]) (by simp [State.restless])
  by_cases hc : s.aligningToRun = true
  · rw [State.shaftMoved_of_aligning hc]; exact hended.failAlignment _ _ _
  · rw [State.shaftMoved_of_not_aligning hc]; exact hended

/-! ### The course lists -/

theorem reportUnderrun (h : s.Controlled) : s.reportUnderrun.Controlled := by
  unfold State.reportUnderrun
  split
  · exact h
  · exact (h.updLists (f := fun l => { l with underrunMark := true }) h.lists).report _ _ _

theorem reportRunEnd (h : s.Controlled) (detail : Nat) : (s.reportRunEnd detail).Controlled := by
  unfold State.reportRunEnd
  split
  · exact h
  · exact (h.updLists (f := fun l => { l with endMark := true }) h.lists).of_same

theorem reportStarved (h : s.Controlled) : s.reportStarved.Controlled := by
  unfold State.reportStarved
  split
  · exact h
  · exact (h.updLists (f := fun l => { l with starvedMark := true }) h.lists).of_same

theorem crossForward (h : s.Controlled) : s.crossForward.Controlled := by
  unfold State.crossForward
  dsimp only
  split
  · exact h.relisted h.lists
  · split
    · exact h.relisted h.lists
    · split
      · exact h.relisted (h.lists.stepForward _ _)
      · have hpast := h.relisted (f := fun l => { l with ahead := 1 }) h.lists
        split
        · exact hpast.reportRunEnd _
        · exact hpast.reportUnderrun

theorem crossBackward (h : s.Controlled) : s.crossBackward.Controlled := by
  unfold State.crossBackward
  dsimp only
  split
  · exact h.relisted h.lists
  · split
    next hnewest =>
      exact h.relisted (h.lists.stepBackward (fun hnil => by simp [hnil] at hnewest) _ _)
    · have hbehind := h.relisted (f := fun l => { l with behind := min 65535 (l.behind + 1) }) h.lists
      split
      · exact hbehind.report _ _ _
      · exact hbehind

theorem arriveUnderlap (h : s.Controlled) : s.arriveUnderlap.Controlled := by
  unfold State.arriveUnderlap
  split
  · exact h
  · split
    · exact h.updLists h.lists
    · split
      · exact h
      · exact h.reportUnderrun

theorem stoppedCheck (h : s.Controlled) : s.stoppedCheck.Controlled := by
  unfold State.stoppedCheck
  split
  · split
    · exact h.reportRunEnd _
    · exact h.reportStarved
  · exact h

theorem clearLists (hr : s.RequestSound) : s.clearLists.Controlled :=
  replan (s := s.updLists Lists.cleared) hr s.lists.cleared_sound

/-- A record appended becomes current, or joins the queue where it has a free place (05, R74). -/
theorem append (h : s.Controlled) (hroom : s.lists.current = none ∨ s.lists.queue.length < Config.queueRoom) (tag : Tag)
    (origin : Origin) (cap : Option Nat) (laps : List RawLap) : (s.append tag origin cap laps).Controlled := by
  cases hlast : s.lists.last with
  | none =>
    rw [State.append_of_none _ _ _ _ _ hlast]
    exact h.relisted (h.lists.withCurrent _)
  | some c =>
    have hcurrent : s.lists.current ≠ none := fun hnone => by
      obtain ⟨-, hreplay, hqueue⟩ := h.lists.2.2 hnone
      simp [Lists.last, Lists.after, hreplay, hqueue, hnone] at hlast
    rw [State.append_of_some _ _ _ _ _ hlast]
    obtain ⟨r, hr⟩ : ∃ r, r = s.newRecord tag origin cap laps := ⟨_, rfl⟩
    obtain ⟨f, hf⟩ : ∃ f, (s.giveCeiling c r).lists = s.lists.modifyLastRecord f := ⟨_, by simp [State.giveCeiling]; rfl⟩
    obtain ⟨hkept, hlength⟩ := s.lists.modifyLastRecord_keeps f
    have hgiven : (s.giveCeiling c r).Controlled :=
      (h.updLists (f := fun l => l.modifyLastRecord f) (h.lists.modifyLastRecord f)).of_same (by simp) hf
    rw [← hr]
    refine hgiven.relisted (hgiven.lists.join ?_ ?_ r) <;> rw [hf]
    · rw [← Option.isSome_iff_ne_none, hkept, Option.isSome_iff_ne_none]
      exact hcurrent
    · rw [hlength]
      exact hroom.resolve_left hcurrent

/-! ### The player -/

theorem feed (h : s.Controlled) : s.feed.Controlled := by
  have hone {u : State} (hu : u.Controlled) (hcan : u.canFeed = true) : u.feedOne.Controlled := by
    have hroom : u.lists.current = none ∨ u.lists.queue.length < Config.queueRoom := by
      simp only [State.canFeed, Bool.and_eq_true, Bool.or_eq_true, Option.isNone_iff_eq_none, decide_eq_true_eq] at hcan
      obtain ⟨⟨⟨-, hroom⟩, -⟩, -⟩ := hcan
      exact hroom
    have hfed (table : List SeqStep) (step : SeqStep) : (u.fedCourse table step).Controlled :=
      (hu.append hroom _ _ _ _).of_same
    rcases u.feedOne_cases with e | ⟨_, _, _, e⟩ | ⟨table, step, e | ⟨mode, e⟩⟩ <;> rw [e]
    · exact hu
    · exact hu.of_same
    · exact hfed table step
    · exact (hfed table step).of_same (by simp) (by simp)
  unfold State.feed
  induction Config.queueRoom + 1 generalizing s with
  | zero => exact h
  | succ n ih =>
    unfold State.feedUpTo
    split
    · exact ih (hone h ‹_›)
    · exact h

theorem endLocate (h : s.Controlled) : s.endLocate.Controlled := by
  unfold State.endLocate
  split
  · exact h
  · exact feed h.of_same

end State.Controlled

end Sys2Proof.Machine
end

section
/-! PROOF. The run controller's own steps, the channels and the tracker keep the run controller and the lists sound: the operations that
set a flag, and those that report a cause or move the lists. -/

namespace Sys2Proof.Machine

-- One declaration at a time: many at once would each hold a thread's stack.
set_option Elab.async false

namespace State.Controlled

variable {s t : State}

/-! ### The run controller -/

theorem enterHoldFromStandby (h : s.Controlled) : s.enterHoldFromStandby.Controlled :=
  (replan (s := s.enter .hold) (s.enter_requestSound .hold) h.lists).permitDue.feed.notify _ _ _

/-- WAITING gives way to CHANGING, for the same request (R160). -/
theorem startAlignment (h : s.Controlled) (hrequested : s.run.requested = some .run) : s.startAlignment.Controlled := by
  refine ⟨⟨fun hboth => Bool.false_ne_true hboth.1, ?_, nofun⟩, fun hs => h.permit (hs.imp_right nofun), h.lists⟩
  simp [State.startAlignment, hrequested]

theorem enterRun (h : s.Controlled) : s.enterRun.Controlled := by
  have hbound : (s.enter .run).bindOnRun.lists.Sound := by
    unfold State.bindOnRun
    split
    · exact h.lists
    · exact h.lists
  have hentered : (s.enter .run).bindOnRun.startFollowing.replan.Controlled := by
    refine replan ?_ (by simpa using hbound)
    simpa [State.RequestSound] using s.enter_requestSound .run
  have hpeak (u : State) (hu : u.Controlled) (peak : Nat) : (u.updRun fun r => { r with peak := peak }).Controlled :=
    ⟨hu.flags, hu.permit, hu.lists⟩
  exact ((hpeak _ hentered.permitDue _).notify _ _ _).stoppedCheck

theorem enterHold (h : s.Controlled) : s.enterHold.Controlled := by
  have hentered := replan (s := (((s.enter .hold).updRun fun r => { r with halt := none }).updLists Lists.released).mapChannels
    fun _ c => holdChannel s.machine c) (s.enter_requestSound .hold) h.lists
  exact hentered.permitDue.feed.notify _ _ _

theorem enterStandby (s : State) : s.enterStandby.Controlled := by
  refine (((clearLists ?_).updPlayer _).permitDue).notify _ _ _
  simpa [State.RequestSound] using s.enter_requestSound .standby

theorem perform (h : s.Controlled) {d : DueStep} (hd : s.dueStep = some d) : (s.perform d).Controlled := by
  cases d with
  | enterHoldFromStandby => exact h.enterHoldFromStandby
  | alignmentStart => exact h.startAlignment (State.waits_of_dueStep hd)
  | enterRun => exact h.enterRun
  | enterHold => exact h.enterHold
  | enterStandby => exact enterStandby s

theorem takeDue (h : s.Controlled) : s.takeDue.Controlled := by
  unfold State.takeDue
  split
  next hd => exact h.perform hd
  next => exact h

theorem settleRun (h : s.Controlled) : s.settleRun.Controlled := h.takeDue.takeDue

/-- A request that finds nothing changing cancels a wait, starts a change in STANDBY, or waits elsewhere (R157). -/
theorem takeUp (h : s.Controlled) (hc : s.run.changing = false) (t : Target) : (s.takeUp t).Controlled := by
  obtain ⟨-, -, hstandby⟩ := h.flags
  unfold State.takeUp
  split
  · exact publish (s := s.updRun fun r => { r with waiting := false, requested := none })
      ⟨by simp, by simp [hc], by simp⟩ h.lists
  next hne =>
    split
    next hs =>
      have hw : s.run.waiting = false := Bool.eq_false_iff.mpr fun hw => hstandby hw hs
      exact ⟨⟨by simp [State.enableAll, hw], by simp [State.enableAll], by simp [State.enableAll, hw]⟩, h.permit, h.lists⟩
    next => exact enterStandby s
    next hs _ =>
      exact publish (s := s.updRun fun r => { r with waiting := true, requested := some _ })
        ⟨by simp [hc], by simp, fun _ hstate => hs hstate⟩ h.lists

theorem setRunState (h : s.Controlled) (code : Nat) : (s.setRunState code).1.Controlled := by
  have htaken (hc : s.run.changing = false) (bad : Bool) (t : Target) :
      ((s.updRun fun r => { r with badRequest := bad }).takeUp t).settleRun.Controlled :=
    (takeUp (s := s.updRun fun r => { r with badRequest := bad }) ⟨h.flags, h.permit, h.lists⟩ hc t).settleRun
  unfold State.setRunState
  split
  · exact h
  · split
    · exact h
    next hc =>
      split
      · exact h
      · split
        · exact htaken (Bool.eq_false_iff.mpr hc) _ _
        · exact htaken (Bool.eq_false_iff.mpr hc) _ _

/-! ### The channels -/

theorem judgeMissing (h : s.Controlled) (b : Nat) : (s.judgeMissing b).Controlled := by
  unfold State.judgeMissing
  dsimp only
  split
  · split
    · exact faultUncompared h.of_same _ _ _
    · rw [State.notifyView_frame]; exact h.of_same
  · split
    · exact h.of_same
    · exact h

theorem expire (h : s.Controlled) (b : Nat) (e : Expiry) : (s.expire b e).Controlled := by
  cases e with
  | none => exact h
  | enable => exact h.faultUncompared _ _ _
  | energize | hold => exact h.of_same
  | settle => exact h.of_same (by simp [State.expire]) (by simp [State.expire])

theorem exchangeBar (h : s.Controlled) (b : Nat) : (s.exchangeBar b).Controlled := by
  have hbegun : (s.beginExchange b).Controlled :=
    expire (of_same (judgeMissing (s := s.advanceTo _) h.of_same b)) b _
  unfold State.exchangeBar
  split
  · exact h
  · refine hbegun.of_same (State.send_run _ b) ?_
    unfold State.send
    cases arrivalOf ((s.beginExchange b).channel b) <;> simp [State.arrive]

theorem goodStatus (h : s.Controlled) (b : Nat) (d : DriveStatus) : (s.goodStatus b d).Controlled := by
  unfold State.goodStatus State.referencingStatus State.joggingStatus State.notFound
  dsimp only
  (repeat' split) <;> exact h.of_same (by simp) (by simp)

theorem takeStatus (h : s.Controlled) (b : Nat) (d : DriveStatus) : (s.takeStatus b d).Controlled := by
  have htaken : (s.updChannel b (statusTaken d)).Controlled := h.of_same
  unfold State.takeStatus
  dsimp only
  split
  · exact h
  · split
    · split
      · exact htaken.faultUncompared _ _ _
      · split
        · exact htaken.faultUncompared _ _ _
        · split
          · exact htaken.faultChannel _ _ _ _ _
          · exact htaken.goodStatus _ _
    · rw [State.notifyView_frame]; exact htaken.of_same

theorem receiveStatus (h : s.Controlled) (line : DriveLine) (bytes : List Byte) : (s.receiveStatus line bytes).Controlled := by
  unfold State.receiveStatus
  split
  · split
    · exact h.takeStatus _ _
    · exact h
  · exact h

theorem expireAllowance (h : s.Controlled) : s.expireAllowance.Controlled := by
  unfold State.expireAllowance
  split
  · exact h
  · exact h.of_same (by simp) (by simp)

/-! ### The tracker -/

theorem listsForward (h : s.Controlled) : s.listsForward.Controlled := by
  unfold State.listsForward
  split
  · exact h.crossForward
  · exact h

theorem crossingReports (h : s.Controlled) : s.crossingReports.Controlled := by
  have hdrawn : s.draw.Controlled := h.of_same
  unfold State.crossingReports
  split
  · dsimp only
    split
    · exact (hdrawn.reportWith _ _ _ _ _).listsForward
    · exact hdrawn.listsForward.reportWith _ _ _ _ _
  · exact h.listsForward

theorem forwardCrossing (h : s.Controlled) : s.forwardCrossing.Controlled := by
  have hfed := (crossingReports (s := s.closeCourse) h.of_same).feed
  exact ⟨hfed.flags, hfed.permit, hfed.lists⟩

/-- The events but the forward crossing move the lists behind a change of the tracker. -/
theorem raise (h : s.Controlled) (e : Option ShaftEvent) : (s.raise e).Controlled := by
  have hmarked (f : Tracker → Tracker) : (s.updTracker f).Controlled := h.of_same
  unfold State.raise State.backwardCrossing State.underlapArrival State.underlapDeparture
  dsimp only
  split
  · exact h.forwardCrossing
  · split
    · exact (hmarked _).crossBackward
    · exact hmarked _
  · split
    · exact (hmarked _).arriveUnderlap
    · exact hmarked _
  · split
    · exact (hmarked _).updLists h.lists
    · exact hmarked _
  · exact h

theorem count (h : s.Controlled) (d : Direction) (levels : Levels) : (s.count d levels).Controlled := by
  unfold State.count
  dsimp only
  generalize hs2 : (if s.tracker.sync = .noSignal then _ else _) = s2
  have h2 : s2.Controlled := by
    rw [← hs2]
    split <;> exact h.of_same
  generalize hs3 : (if s.tracker.stopped = true then _ else _) = s3
  have h3 : s3.Controlled := by
    rw [← hs3]
    split
    · exact h2.shaftMoved
    · exact h2
  split
  · exact (h3.raise _).of_same
  · exact h3

theorem encoderError (h : s.Controlled) : s.encoderError.Controlled := by
  unfold State.encoderError
  dsimp only
  generalize hs3 : (if s.tracker.sync = .noSignal then _ else _) = s3
  have h3 : s3.Controlled := by
    rw [← hs3]
    (repeat' split) <;> exact h.of_same
  exact (h3.report .encoderError 0 0).of_same (by simp) (by simp)

theorem sample (h : s.Controlled) (levels : Levels) : (s.sample levels).Controlled := by
  unfold State.sample
  split
  · exact h
  · exact h.count _ _
  · exact h.count _ _
  · exact h.encoderError

theorem arriveIndex (h : s.Controlled) : s.arriveIndex.Controlled := by
  unfold State.arriveIndex State.checkIndex State.lockedIndex
  dsimp only
  split
  · exact h
  · exact h.of_same
  · split
    · split
      · exact h.of_same
      · exact h
    · exact h.of_same
  · split
    · exact h
    · split
      · exact (raise (s := s.updTracker _) h.of_same _).of_same
      · exact report h.of_same _ _ _

theorem goStopped (h : s.Controlled) : s.goStopped.Controlled := by
  have hchecked : (s.updTracker fun t => { t with stopped := true }).stoppedCheck.Controlled := stoppedCheck h.of_same
  unfold State.goStopped
  dsimp only
  split
  · exact hchecked.of_same
  · exact hchecked

theorem detectStop (h : s.Controlled) : s.detectStop.Controlled := by
  unfold State.detectStop
  split
  · exact h
  · exact goStopped h.of_same

theorem settingsChanged (h : s.Controlled) (old : MachineRecord) : (s.settingsChanged old).Controlled := by
  unfold State.settingsChanged
  dsimp only
  generalize hs1 : (if old.indexAngle = s.machine.indexAngle then _ else _) = s1
  have h1 : s1.Controlled := by
    rw [← hs1]
    (repeat' split) <;> exact h.of_same
  generalize hs2 : (if (decide (old.ulStart ≠ s.machine.ulStart) && _) = true then _ else _) = s2
  have h2 : s2.Controlled := by
    rw [← hs2]
    split <;> exact h1.of_same
  split
  · exact h2.goStopped
  · exact h2

end State.Controlled

end Sys2Proof.Machine
end

section
/-! PROOF. The requests, the port, the resets and the commands keep the run controller and the lists sound, and so every step does. -/

namespace Sys2Proof.Machine

-- One declaration at a time: many at once would each hold a thread's stack.
set_option Elab.async false

namespace State.Controlled

variable {s t : State}

/-! ### The requests -/

/-- COURSES takes records while the queue has room (05, R88, R89). -/
theorem takeRecords (h : s.Controlled) (n : Nat) (rs : List SentRecord) : (takeRecords n rs s).1.Controlled := by
  induction rs generalizing n s with
  | nil => exact h
  | cons r rs ih =>
    unfold Machine.takeRecords
    split
    · exact h
    next hpasses =>
      have hroom : s.lists.current = none ∨ s.lists.queue.length < Config.queueRoom := by
        by_contra hfull
        rw [not_or, Nat.not_lt, ← ne_eq, ← Option.isSome_iff_ne_none] at hfull
        rw [State.recordFailure_of_full hfull.1 hfull.2] at hpasses
        cases hpasses
      have happended := h.append hroom r.tag .stream (capOf r.cap) (s.assignedBars.map (streamLap s.lists.streamBars r.cells))
      exact ih (happended.updLists (f := fun l => { l with expected := some (r.tag + 1) }) happended.lists) _

/-- Whatever a request comes to, its owner keeps the run controller and the lists sound. -/
theorem handle (h : s.Controlled) (r : Request) : (s.handle r).1.Controlled := by
  cases r with
  | setRunState target => exact h.setRunState target
  | setMachine m =>
    rcases s.setMachine_fst m with e | ⟨-, e⟩ <;> rw [State.handle, e]
    · exact h
    · exact settingsChanged (s := { s with machine := m }) h.of_same s.machine
  | assignBars es =>
    rcases s.assignBars_fst es with e | e <;> rw [State.handle, e]
    · exact h
    · unfold State.applyAssignment State.examineStream
      dsimp only
      split
      · exact ⟨h.flags, h.permit, h.lists⟩
      · exact h.of_same
  | switchSequence mode =>
    have hswitched (m : SwitchMode) (f : Player → Player) : ((s.takeSwitch m).updPlayer f).feed.Controlled :=
      feed (h.of_same (by simp) (by simp))
    rcases s.switchSequence_fst mode with e | e | ⟨m, e⟩ <;> rw [State.handle, e]
    · exact h
    · rcases s.switchNow_fst with e | e <;> rw [e]
      · exact h
      · exact hswitched _ _
    · unfold State.switchTimed
      split
      · exact hswitched m id
      · exact h.of_same
  | setCursor place =>
    rcases s.setCursor_fst place with e | e <;> rw [State.handle, e]
    · exact h
    · exact feed (clearLists h.flags)
  | openStream first bars =>
    rcases s.openStream_fst first bars with e | e <;> rw [State.handle, e]
    · exact h
    · have hcleared := clearLists h.flags
      exact hcleared.updLists hcleared.lists
  | courses count records =>
    rcases s.courses_fst count records with e | ⟨rs, e⟩ <;> rw [State.handle, e]
    · exact h
    · exact h.takeRecords 0 rs
  | endStream =>
    rcases s.endStream_fst with e | e <;> rw [State.handle, e]
    · exact h
    · exact (h.updLists h.lists.endStream).stoppedCheck
  | flushCourses =>
    rcases s.flushCourses_fst with e | e <;> rw [State.handle, e]
    · exact h
    · exact (h.relisted h.lists.flush).stoppedCheck.feed
  | fetchNotice => rcases s.fetchNotice_fst with e | e <;> rw [State.handle, e] <;> exact h.of_same
  | reset scope => rcases s.resetRequest_fst scope with e | ⟨x, e⟩ <;> rw [State.handle, e] <;> exact h.of_same
  | setProfile n p => rcases s.setProfile_fst n p with e | e <;> rw [State.handle, e] <;> exact h.of_same
  | defineBlock id n bars => rcases s.defineBlock_fst id n bars with e | e <;> rw [State.handle, e] <;> exact h.of_same
  | blockData id first cells =>
    rcases s.blockData_fst id first cells with e | e <;> rw [State.handle, e]
    · exact h
    · unfold State.storeCells
      dsimp only
      split <;> exact h.of_same
  | dropBlock id =>
    rcases s.dropBlock_fst id with e | e <;> rw [State.handle, e]
    · exact h
    · unfold State.drop State.leaveChecks
      dsimp only
      split <;> exact h.of_same
  | blockInfo id => rw [State.handle, s.blockInfo_fst id]; exact h
  | readBlockStart id n => rcases s.readBlockStart_fst id n with e | ⟨c, e⟩ <;> rw [State.handle, e] <;> exact h.of_same
  | readBlockNext => rcases s.readBlockNext_fst with e | ⟨c, e⟩ <;> rw [State.handle, e] <;> exact h.of_same
  | writeSequence steps =>
    rcases s.writeSequence_fst steps with e | e <;> rw [State.handle, e]
    · exact h
    · exact h.of_same (by simp) (by simp)
  | locate start stride ts => rcases s.locate_fst start stride ts with e | e <;> rw [State.handle, e] <;> exact h.of_same
  | reference bars ext => rcases s.reference_fst bars ext with e | e <;> rw [State.handle, e] <;> exact h.of_same
  | jog bar target => rcases s.jog_fst bar target with e | e <;> rw [State.handle, e] <;> exact h.of_same
  | ident | status | readSettings | getPosition | planReport | unknown _ | badLength _ => exact h

/-! ### The port -/

/-- A request answered: what its owner makes due is taken before the reply is built (10, R179). -/
theorem answer (h : s.Controlled) (w : Waiting) : (s.answer w).Controlled :=
  of_same (settleRun (h.handle w.request))

theorem serve (h : s.Controlled) : s.serve.Controlled := by
  unfold State.serve
  split
  · exact h.answer _
  · exact h

theorem offerRequest (h : s.Controlled) (tag : Tag) (r : Request) : (s.offerRequest tag r).Controlled := by
  unfold State.offerRequest
  split
  · exact serve h.of_same
  · exact h.notify _ _ _

theorem request (h : s.Controlled) (tag : Tag) (r : Request) : (s.request tag r).Controlled := by
  unfold State.request
  split
  · exact offerRequest (s := s.hunt) h.of_same tag r
  · exact h

theorem replySent (h : s.Controlled) : s.replySent.Controlled := by
  unfold State.replySent
  split
  · exact serve h.of_same
  · exact h

/-- A byte changes the receiver alone, unless it completes a frame (10, R176, R177). -/
theorem takeByte (h : s.Controlled) (v : Byte) : (s.takeByte v).Controlled := by
  unfold State.takeByte State.completeFrame
  dsimp only
  split
  case h_4 =>
    split
    · exact h.of_same
    · split
      · exact offerRequest (s := s.hunt) h.of_same _ _
      · exact h.of_same
  all_goals (repeat' split) <;> exact h.of_same

theorem receiveByte (h : s.Controlled) (v : Byte) (stopHigh : Bool) : (s.receiveByte v stopHigh).Controlled := by
  have hgap : (if s.gapTooLong then s.hunt else s).Controlled := by split <;> exact h.of_same
  unfold State.receiveByte
  split
  · exact h
  · dsimp only
    split
    · exact hgap.takeByte v
    · exact hgap.of_same

/-! ### The resets -/

/-- Every block in its power-on state, or after a motion reset, has nothing requested and empty lists (R174; 05, R95). -/
theorem of_initial {cause : ResetCause} (hrun : s.run = .initial cause) (hlists : s.lists.Sound) : s.Controlled :=
  ⟨by simp [State.RequestSound, hrun, RunControl.initial], by simp [State.PermitSound, hrun, RunControl.initial], hlists⟩

theorem cleared (s : State) (power : Power) (cause : ResetCause) (line : PermitLine) (rate : Nat) :
    (s.cleared power cause line rate).Controlled :=
  of_initial rfl Lists.initial.cleared_sound

theorem motionCleared (s : State) : s.motionCleared.Controlled := of_initial rfl (Lists.cleared_sound _)

theorem firstPermit (h : s.Controlled) : s.firstPermit.Controlled := by
  rw [State.firstPermit_frame]; exact h.of_same

theorem takeOwed (h : s.Controlled) : s.takeOwed.Controlled := by
  unfold State.takeOwed
  split
  · exact (motionCleared _).firstPermit.serve
  · exact (cleared _ _ _ _ _).firstPermit
  · exact h

theorem pinHeld (s : State) : s.pinHeld.Controlled := by
  unfold State.pinHeld
  split <;> exact cleared s _ _ _ _

theorem release (h : s.Controlled) (levels : Levels) : (s.release levels).Controlled := by
  unfold State.release
  split
  · exact ⟨h.flags, h.permit, h.lists⟩
  · exact h

/-! ### The events that touch neither the run controller nor the lists -/

theorem completeCheck (h : s.Controlled) : s.completeCheck.Controlled := by
  unfold State.completeCheck
  split <;> exact h.of_same

theorem gapTimeout (h : s.Controlled) : s.gapTimeout.Controlled := by
  unfold State.gapTimeout
  split <;> exact h.of_same

theorem permitFrame (h : s.Controlled) : s.permitFrame.Controlled := by
  unfold State.permitFrame
  split <;> exact h.of_same

theorem endStartUp (h : s.Controlled) : s.endStartUp.Controlled := by
  unfold State.endStartUp
  split <;> exact h.of_same

/-! ### The commands -/

/-- An event that keeps the run controller sound keeps it so with what comes due before it. -/
theorem after (h : s.Controlled) (dt : Nat) {f : State → State} (hf : ∀ {u : State}, u.Controlled → (f u).Controlled) :
    (s.after dt f).Controlled := by
  have hready : s.ready.Controlled := by
    unfold State.ready State.dueReset
    split
    · exact h.settleRun.takeOwed
    · exact h.settleRun
  unfold State.after
  split
  · exact h.of_same
  · exact hf hready.of_same

theorem goesOn (h : s.Controlled) {f : State → State} (hf : ∀ {u : State}, u.Controlled → (f u).Controlled)
    (ht : s.goesOn f = .next t) : t.Controlled := by
  cases ht
  exact h.after 0 hf

theorem onBar (h : s.Controlled) {b : Nat} {f : State → State} (hf : ∀ {u : State}, u.Controlled → (f u).Controlled)
    (ht : s.onBar b f = .next t) : t.Controlled := by
  unfold State.onBar at ht
  split at ht
  · exact h.goesOn hf ht
  · cases ht

theorem exchangeWhen (h : s.Controlled) {b : Nat} {holds : State → Bool} (ht : s.exchangeWhen b holds = .next t) :
    t.Controlled := by
  refine h.onBar (fun hu => ?_) ht
  split
  · exact hu.exchangeBar b
  · exact hu

theorem ownStep (h : s.Controlled) (d : DueStep) : (s.ownStep d).Controlled := by
  unfold State.ownStep
  split
  next hd =>
    simp only [Bool.and_eq_true, beq_iff_eq] at hd
    exact h.perform hd.2
  next => exact h

theorem ownReset (h : s.Controlled) (scope : Scope) : (s.ownReset scope).Controlled := by
  unfold State.ownReset
  split
  · exact h.settleRun.takeOwed
  · exact h

/-- Every command keeps the run controller sound. -/
theorem exec (h : s.Controlled) {c : Instr} (ht : exec c s = .next t) : t.Controlled := by
  cases hc : requestOf c with
  | some w => exact h.goesOn (fun hu => hu.request _ _) ((exec_of_requestOf hc s).symm.trans ht)
  | none =>
    cases c with
    | motionReset => cases ht; exact h.ownReset .motion
    | fullReset => cases ht; exact h.ownReset .full
    | checkComplete => exact h.goesOn completeCheck ht
    | locateDone => exact h.goesOn endLocate ht
    | byteReceived v stopHigh dt => cases ht; exact h.after dt fun hu => hu.receiveByte v stopHigh
    | frameGapTimeout => exact h.goesOn gapTimeout ht
    | replySent => exact h.goesOn replySent ht
    | encoderCount levels dt => cases ht; exact h.after dt fun hu => hu.sample levels
    | encoderError dt => cases ht; exact h.after dt encoderError
    | indexArrival dt => cases ht; exact h.after dt arriveIndex
    | stopDetect => exact h.goesOn detectStop ht
    | exchange b => exact h.onBar (fun hu => hu.exchangeBar b) ht
    | statusFrame line bytes => exact h.goesOn (fun hu => hu.receiveStatus line bytes) ht
    | driveLost | enableTimeout | energizeTimeEnd | holdDelayExpiry | jogTargetReached | settleTimeout | zeroMoveComplete
    | aligned => exact h.exchangeWhen ht
    | allowanceTimeout => exact h.goesOn expireAllowance ht
    | enterHoldFromStandby | alignmentStart | enterRun | enterHold | enterStandby => cases ht; exact h.ownStep _
    | permitFrame => exact h.goesOn permitFrame ht
    | powerOn rate1 rate0 => cases ht; exact cleared s _ _ _ _
    | pinReset => cases ht; exact pinHeld s
    | resetRelease levels => cases ht; exact h.release levels
    | startUpEnd => cases ht; exact h.endStartUp
    | _ => cases hc

/-- Every step keeps the run controller sound: the command at the front runs with the queue's rest, or 1 us passes. -/
theorem step (h : s.Controlled) (ht : step s = .next t) : t.Controlled := by
  unfold Machine.step at ht
  split at ht
  · cases ht; exact h.of_same
  next c rest _ => exact exec (s := { s with pending := rest }) h.of_same ht

end State.Controlled

/-- Outside RUN the STOP output is active, and a sound permit is 0 (R153, R154). -/
theorem State.PermitSound.standing {s : State} (h : s.PermitSound) : s.Standing :=
  fun hs => ⟨by simp [State.stopActive, hs], h (.inl hs)⟩

/-- Settles O57: each operation of the model keeps `State.Controlled`, and so every step does. -/
theorem everyStepKeepsTheRunControl : Obligations.EveryStepKeepsTheRunControl := by
  intro s t ht hrequest hpermit hlists
  obtain ⟨hrequest', hpermit', hlists'⟩ := State.Controlled.step ⟨hrequest, hpermit, hlists⟩ ht
  exact ⟨hrequest', hpermit', hlists', hpermit'.standing⟩

end Sys2Proof.Machine
end

section
/-! PROOF. The permit line (09, R155; 10, R190) and RESET (09, R172 to R174): the frame that goes out, the request that is answered before
it acts, and what the two scopes leave. -/

namespace Sys2Proof.Machine

-- One declaration at a time: many at once would each hold a thread's stack.
set_option Elab.async false

/-! ### The permit frame (09, R155; 10, R190) -/

theorem runStateCode_eq (r : RunState) :
    runStateCode r = match r with | .standby => 0 | .hold => 1 | .run => 2 | .halt => 3 := by
  cases r <;> rfl

/-- STOP is active outside RUN, in a part that is not held (R153). -/
theorem State.stopActive_of_free {s : State} (h : s.isHeld = false) : s.stopActive = (s.run.state != .run) := by
  rw [State.stopActive, h, Bool.false_or]

/-- The three bytes that the CRC of a permit frame covers, and the frame (10, R190). -/
theorem permitFrameBytes_eq (permit : Nat) (state : RunState) :
    let body := [byteOf (permit / 256), byteOf permit,
      byteOf ((if state = .run then 0 else 1) + 16 * runStateCode state)]
    permitFrameBytes permit (state != .run) state = [0x5A] ++ body ++ beBytes 2 (crc body).toNat := by
  have hstop : bitAt 0 (state != .run) = if state = .run then 0 else 1 := by cases state <;> rfl
  simp [permitFrameBytes, beBytes, hstop, crcBytes]

/-- Settles O51: a frame that is due is sent when the line is free, with the values as they then stand. -/
theorem permitFrameCarriesTheValues : Obligations.PermitFrameCarriesTheValues := by
  intro s hq
  have hrunning : s.isRunning = true := by simp [State.isRunning, hq.1]
  have hexec : exec .permitFrame s = .next s.permitFrame := congrArg Host.Outcome.next (State.event_of_quiet hq _)
  refine ⟨fun hdue => ?_, fun hdue => ?_⟩
  · rw [hexec, State.permitFrame, if_neg (by simp [hdue])]
  · intro code body now
    have hframe : permitFrameBytes s.run.published s.stopActive s.run.state =
        [0x5A] ++ body ++ beBytes 2 (crc body).toNat := by
      rewrite [State.stopActive_of_free (State.isHeld_of_quiet hq), permitFrameBytes_eq, runStateCode_eq]
      rfl
    rw [hexec, State.permitFrame, if_pos (by simp [hrunning, hdue]), ← hframe]
    rfl

/-! ### RESET is answered before it acts (09, R173) -/

/-- Settles O5: the reset is owed, with nothing due before its reply; another scope is a bad field. -/
theorem resetIsAnsweredBeforeItActs : Obligations.ResetIsAnsweredBeforeItActs := by
  intro tag s hq hp
  refine ⟨fun scope => ?_, fun scope hscope => ?_⟩
  · cases scope with
    | motion => exact exec_accepted (c := .reset tag 0) rfl hq hp rfl hq.2.2
    | full => exact exec_accepted (c := .reset tag 1) rfl hq hp rfl hq.2.2
  · have hrefused : (s.taken tag (.reset scope)).resetRequest scope = (s.taken tag (.reset scope), badField 0) := by
      unfold State.resetRequest
      split
      · omega
      · omega
      · rfl
    exact exec_refused (c := .reset tag scope) rfl hq hp hrefused

/-! ### The scopes of RESET (09, R173) -/

/-- The port takes the oldest request when it handles none and no reset is owed (10, R179). -/
theorem State.serve_of_free {s : State} (htx : s.link.tx = none) (ho : s.link.resetOwed = none) :
    (s.link.buffer = [] → s.serve = s) ∧ (∀ w ws, s.link.buffer = w :: ws → s.serve = s.answer w) := by
  unfold State.serve
  rw [htx, ho]
  refine ⟨fun hb => ?_, fun w ws hb => ?_⟩ <;> rw [hb]

theorem State.resetAnswered_of_out {s : State} (htx : s.link.tx = none) :
    s.resetAnswered = s.updLink fun l => { l with resetOwed := none } := by
  simp [State.resetAnswered, htx]

/-- The row of a reset takes it when its reply is out and nothing else is due (log 5). -/
theorem State.ownReset_of_owed {s : State} (hp : s.power = .running) (hd : s.dueStep = none) {scope : Scope}
    (ho : s.link.resetOwed = some scope) : s.ownReset scope = s.takeOwed := by
  have hheld : s.isHeld = false := by simp [State.isHeld, hp]
  rw [State.ownReset, if_pos (by simp [hheld, ho]), State.settleRun_of_none hd]

theorem State.takeOwed_of_motion {s : State} (ho : s.link.resetOwed = some .motion) : s.takeOwed = s.motionReset := by
  rw [State.takeOwed, ho]

theorem State.takeOwed_of_full {s : State} (ho : s.link.resetOwed = some .full) : s.takeOwed = s.fullReset := by
  rw [State.takeOwed, ho]

/-- Each channel after a motion reset: OFF or ABSENT, unreferenced and at rest, with what its drive told kept (07, R137). -/
theorem State.motionChannel_spec (s : State) (b : Nat) (c : Channel) :
    let k := s.motionChannel b c
    k.state = (if s.assigned b then .off else .absent) ∧ k.referenced = false ∧ k.refPoint = none ∧ k.lastTarget = 0 ∧
    k.setpoint = c.setpoint ∧ k.view = c.view ∧ k.last = c.last ∧ k.missed = c.missed ∧ k.pendingMove = none ∧
    k.jog = none := by
  unfold State.motionChannel
  split <;> exact ⟨rfl, rfl, rfl, rfl, rfl, rfl, rfl, rfl, rfl, rfl⟩

/-- The part when a motion reset has taken effect, before the port goes on (R155, R173). -/
def State.motionDone (s : State) : State := (s.updLink fun l => { l with resetOwed := none }).motionCleared.firstPermit

theorem State.motionReset_of_out {s : State} (htx : s.link.tx = none) :
    s.motionReset = match s.link.buffer with | [] => s.motionDone | w :: _ => s.motionDone.answer w := by
  have hlink : s.motionDone.link = { s.link with resetOwed := none } := by rw [State.motionDone, State.firstPermit_frame]; rfl
  obtain ⟨hidle, hserves⟩ := State.serve_of_free (s := s.motionDone) (by rw [hlink]; exact htx) (by rw [hlink])
  rw [State.motionReset, State.resetAnswered_of_out htx]
  cases hb : s.link.buffer with
  | nil => exact hidle (by rw [hlink]; exact hb)
  | cons w ws => exact hserves w ws (by rw [hlink]; exact hb)

/-- Settles O6: the reset leaves the blocks of its scope, then the first permit frame, then the request that waits. -/
theorem theScopesOfResetTakeEffect : Obligations.TheScopesOfResetTakeEffect := by
  refine ⟨fun s hp ho htx hd hs => ⟨s.motionDone, ?_, ?_⟩, fun s hp ho htx hd => ?_⟩
  · have hexec : exec .motionReset s = .next s.motionReset :=
      congrArg Host.Outcome.next ((State.ownReset_of_owed hp hd ho).trans (State.takeOwed_of_motion ho))
    rewrite [hexec, State.motionReset_of_out htx]
    cases s.link.buffer <;> rfl
  · have hstop : (s.updLink fun l => { l with resetOwed := none }).motionCleared.stopActive = true := by
      simp [State.stopActive, State.motionCleared, RunControl.initial]
    have hchannel (b : Nat) (hb : barExists b = true) : s.motionDone.channel b = s.motionChannel b (s.channel b) := by
      have hrange : 1 ≤ b ∧ b ≤ 64 := by simpa [barExists] using hb
      have hmapped := State.channel_mapChannels (s := s) hrange.1 (by omega) s.motionChannel
      rw [State.motionDone, State.firstPermit_frame]
      exact hmapped
    rw [State.motionDone, State.firstPermit_frame, hstop] at *
    exact ⟨rfl, rfl, rfl, rfl, rfl, rfl, rfl, rfl, rfl, rfl, rfl, rfl, hp, rfl, rfl, rfl, fun b hb => by
      rw [hchannel b hb]; exact s.motionChannel_spec b (s.channel b)⟩
  · have hexec : exec .fullReset s = .next s.fullReset :=
      congrArg Host.Outcome.next ((State.ownReset_of_owed hp hd ho).trans (State.takeOwed_of_full ho))
    rw [hexec, State.fullReset, State.resetAnswered_of_out htx]
    dsimp only
    rewrite [State.firstPermit_frame]
    rfl

end Sys2Proof.Machine
end

section
/-! PROOF. A cause reported to the run controller (09, R160, R161, R166 to R168, R171): the halt of a machine in RUN, and the requests
that a cause ends in HOLD. -/

namespace Sys2Proof.Machine

-- One declaration at a time: many at once would each hold a thread's stack.
set_option Elab.async false

/-! ### A recomputation with its permit frame outside RUN (09, R154, R155) -/

theorem State.permitToPublish_of_ne_run {s : State} (h : s.run.state ≠ .run) : s.permitToPublish = 0 := by
  simp [State.permitToPublish, h]

/-- Outside RUN a recomputation that lets a permit frame fall due publishes 0. -/
theorem State.replan_permitDue_of_ne_run {s : State} (h : s.run.state ≠ .run) :
    s.replan.permitDue = { s with
      planner := planOf s.machine s.lists, run := { s.run with published := 0 }
      permitLine := { s.permitLine with due := true } } := by
  have hzero := State.publish_zero (s := { s with planner := planOf s.machine s.lists }) (State.permitToPublish_of_ne_run h)
  exact congrArg State.permitDue hzero

theorem State.replan_permitDue_permitLine (s : State) : s.replan.permitDue.permitLine = { s.permitLine with due := true } := by
  unfold State.replan State.publish
  split <;> rfl

theorem State.stopActive_of_ne_run {s : State} (h : s.run.state ≠ .run) : s.stopActive = true := by
  simp [State.stopActive, h]

/-! ### The halt (09, R167) -/

theorem State.haltOn_permitLine (s : State) (cause : Cause) (detail bar : Nat) (speed : Option Nat) (peak : Nat) :
    (s.haltOn cause detail bar speed peak).permitLine = { s.permitLine with due := true } := by
  simp only [State.haltOn, State.coast_keeps]
  exact State.replan_permitDue_permitLine _

theorem State.channel_coast {s : State} {b : Nat} (hb : barExists b = true) :
    s.coast.channel b = if (s.channel b).state = .following ∧ (s.tracker.stopped = true ∨ s.tracker.sync ≠ .locked) then
      toIdle s.machine (s.channel b) else s.channel b := by
  unfold State.coast
  by_cases h : s.tracker.stopped = true ∨ s.tracker.sync ≠ .locked
  · rw [if_pos (by simpa using h), State.channel_endFollowing hb]
    simp only [h, and_true]
  · rw [if_neg (by simpa using h)]
    simp only [h, and_false, if_false]

/-- On a halt the FOLLOWING channels hold when the shaft stands or the sync is lost (07, R136). -/
theorem State.channel_haltOn {s : State} {b : Nat} (hb : barExists b = true) (cause : Cause) (detail bar : Nat)
    (speed : Option Nat) (peak : Nat) :
    (s.haltOn cause detail bar speed peak).channel b =
      if (s.channel b).state = .following ∧ (s.tracker.stopped = true ∨ s.tracker.sync ≠ .locked) then
        toIdle s.machine (s.channel b) else s.channel b := by
  unfold State.haltOn
  dsimp only
  generalize hw : State.notify _ _ _ _ = w
  have hsame : w.channel b = s.channel b := State.channel_of_channels (by simp [← hw]) b
  have htracker : w.tracker = s.tracker := by simp [← hw]
  have hmachine : w.machine = s.machine := by simp [← hw]
  rw [State.channel_coast hb, hsame, htracker, hmachine]

/-! ### The causes that end a request (09, R160, R161) -/

theorem Cause.ofChannel_iff (cause : Cause) :
    cause.ofChannel = true ↔ cause = .barFollow ∨ cause = .driveFault ∨ cause = .driveLost := by
  cases cause <;> decide

theorem Cause.ofTracker_iff (cause : Cause) : cause.ofTracker = true ↔ cause = .syncLost ∨ cause = .encoderError := by
  cases cause <;> decide

/-- A cause reported in STANDBY and HOLD: it fails an alignment, or a wait toward RUN, or nothing. -/
theorem State.report_of_not_running {s : State} (h : s.run.state = .hold ∨ s.run.state = .standby) (cause : Cause)
    (detail bar : Nat) : s.report cause detail bar =
      if s.aligningToRun && (cause.ofChannel || cause.ofTracker) then s.failAlignment cause detail bar
      else if s.waitingForRun && cause.ofChannel then s.failRequest cause detail bar
      else s := by
  unfold State.report State.reportWith
  rcases h with h | h <;> rw [h]

theorem State.waitingForRun_of_not_waiting {s : State} (h : s.run.waiting = false) : s.waitingForRun = false := by
  simp [State.waitingForRun, h]

theorem State.aligningToRun_of_unchanging {s : State} (h : s.run.changing = false) : s.aligningToRun = false := by
  simp [State.aligningToRun, h]

/-- A wait toward RUN that a channel fault ends. -/
theorem State.failRequest_of_waiting {s : State} (hc : s.run.changing = false) (hr : s.run.requested = some .run)
    (hs : s.run.state = .hold) (cause : Cause) (detail bar : Nat) : s.failRequest cause detail bar = { s with
      run := { s.run with waiting := false, requested := none }
      link := s.link.offer
        ⟨.stateFailed .run false .hold detail, causeCode cause, bar, s.currentTag, s.tracker.angle⟩ } := by
  have hrun : ({ s.run with waiting := false, changing := false, requested := none } : RunControl) =
      { s.run with waiting := false, requested := none } := by rw [← hc]
  unfold State.failRequest
  rw [hc, hr, hs]
  exact congrArg (fun r : RunControl => { s with
    run := r
    link := s.link.offer ⟨.stateFailed .run false .hold detail, causeCode cause, bar, s.currentTag, s.tracker.angle⟩ }) hrun

/-- Settles O50: by the run state that the cause finds. -/
theorem aHaltKeepsItsFirstCause : Obligations.AHaltKeepsItsFirstCause := by
  refine ⟨by decide, fun cause detail bar s => ?_⟩
  intro t notice ofChannel
  have hchannel : cause.ofChannel = true ↔ ofChannel := cause.ofChannel_iff
  refine ⟨fun hrun => ?_, fun hhalt => ?_, fun hstate hc hw => ?_, fun hhold hc hw hr => ⟨fun hof => ?_, fun hof => ?_⟩,
    fun hhold hc hr hof => ?_⟩
  · have ht : t = s.haltOn cause detail bar s.tracker.speed 0 := State.reportWith_of_run hrun ..
    have htrun := s.haltOn_run cause detail bar s.tracker.speed 0
    rw [ht]
    refine ⟨htrun, State.stopActive_of_ne_run (by rw [htrun]; nofun), State.haltOn_permitLine .., by simp, by simp,
      State.haltOn_link .., fun b hb => ?_⟩
    rw [State.channel_haltOn hb]
    split
    · exact ⟨rfl, rfl⟩
    · rfl
  · exact State.reportWith_of_halt hhalt ..
  · have ht := State.report_of_not_running hstate cause detail bar
    rw [State.aligningToRun_of_unchanging hc, State.waitingForRun_of_not_waiting hw] at ht
    exact ht
  · have ht := State.report_of_not_running (Or.inl hhold) cause detail bar
    have hwaits : s.waitingForRun = true := by simp [State.waitingForRun, hw, hr, hhold]
    rw [State.aligningToRun_of_unchanging hc, hwaits, hchannel.mpr hof, State.failRequest_of_waiting hc hr hhold] at ht
    exact ht
  · have ht := State.report_of_not_running (Or.inl hhold) cause detail bar
    rw [State.aligningToRun_of_unchanging hc, Bool.eq_false_iff.mpr (mt hchannel.mp hof), Bool.and_false] at ht
    exact ht
  · have ht := State.report_of_not_running (Or.inl hhold) cause detail bar
    have haligns : s.aligningToRun = true := s.aligningToRun_iff.mpr ⟨hc, hr⟩
    have hheeded : (cause.ofChannel || cause.ofTracker) = true :=
      Bool.or_eq_true_iff.mpr (hof.imp hchannel.mpr cause.ofTracker_iff.mpr)
    rw [haligns, hheeded] at ht
    have hfails : t = s.failAlignment cause detail bar := ht
    have hframe := s.failAlignment_eq cause detail bar
    rw [hc, hr, hhold] at hframe
    rw [hfails]
    refine ⟨congrArg State.run hframe, congrArg State.link hframe, fun b hb => ?_⟩
    rw [State.channel_failAlignment hb]
    dsimp only
    split
    · exact ⟨rfl, rfl⟩
    · rfl

end Sys2Proof.Machine
end

section
/-! PROOF. The transitions of the run controller (09, R163 to R165): what the entries into HOLD and STANDBY leave, field by field. -/

namespace Sys2Proof.Machine

-- One declaration at a time: many at once would each hold a thread's stack.
set_option Elab.async false

/-! ### Entry into HOLD from RUN or HALT (09, R164) -/

/-- The part as it enters HOLD from RUN or HALT, before the feed and the notice. -/
def State.heldAgain (s : State) : State :=
  ((((s.enter .hold).updRun fun r => { r with halt := none }).updLists Lists.released).mapChannels fun _ c =>
    holdChannel s.machine c).replan.permitDue

theorem State.enterHold_eq (s : State) : s.enterHold = s.heldAgain.feed.notifyReached s.run.state s.faultedSet := rfl

theorem State.heldAgain_eq (s : State) : s.heldAgain = { s with
    run := { s.run with
      state := .hold, requested := none, waiting := false, changing := false, published := 0, halt := none }
    planner := planOf s.machine s.lists, lists := { s.lists with bound := false, behind := 0, ahead := 0 }
    permitLine := { s.permitLine with due := true }, channels := s.heldAgain.channels } := by
  have hchannels : s.heldAgain.channels = (s.mapChannels fun _ c => holdChannel s.machine c).channels := by
    simp [State.heldAgain, State.mapChannels, State.enter]
  rewrite [hchannels]
  unfold State.heldAgain
  rewrite [State.replan_permitDue_of_ne_run]
  · rfl
  · nofun

theorem State.channel_heldAgain {s : State} {b : Nat} (hb : barExists b = true) :
    s.heldAgain.channel b = holdChannel s.machine (s.channel b) := by
  have hchannels : s.heldAgain.channels = (s.mapChannels fun _ c => holdChannel s.machine c).channels := by
    simp [State.heldAgain, State.mapChannels, State.enter]
  rw [State.channel_of_channels hchannels]
  exact State.channel_mapChannels_of_initial hb rfl

/-- HOLD is entered with nothing requested, no halt record and a published permit of 0, which no feed raises. -/
theorem State.enterHold_run (s : State) :
    s.enterHold.run.state = .hold ∧ s.enterHold.run.waiting = false ∧ s.enterHold.run.changing = false ∧
    s.enterHold.run.requested = none ∧ s.enterHold.run.halt = none ∧ s.enterHold.run.published = 0 ∧
    s.enterHold.run.badRequest = s.run.badRequest := by
  obtain ⟨hstate, hrequested, hwaiting, hchanging, hbad, hhalt, -⟩ := s.heldAgain.feed_run_keeps
  have hrun := congrArg State.run s.heldAgain_eq
  have hsound : s.heldAgain.PermitSound := fun _ => by rw [hrun]
  have hpublished : s.enterHold.run.published = 0 :=
    State.feed_permitSound hsound (.inl fun hr => nomatch (congrArg RunControl.state hrun).symm.trans (hstate.symm.trans hr))
  rw [hrun] at hstate hrequested hwaiting hchanging hbad hhalt
  exact ⟨hstate, hwaiting, hchanging, hrequested, hhalt, hpublished, hbad⟩

/-! ### The motions that an entry into STANDBY ends (09, R165; 08, R145, R151) -/

/-- The channel stands as before, or OFF where it stood. -/
def Channel.KeptOrOff (c k : Channel) : Prop := k = c ∨ (k.state = .off ∧ k.setpoint = c.setpoint)

theorem Channel.KeptOrOff.toOff {c k : Channel} (h : c.KeptOrOff k) : c.KeptOrOff (toOff k) := by
  rcases h with rfl | ⟨-, hplace⟩
  · exact .inr ⟨rfl, rfl⟩
  · exact .inr ⟨rfl, hplace⟩

section

variable {s : State} {b : Nat} (hs : s.channels.length = 64) (hb : barExists b = true)
include hs hb

theorem State.endJogs_toOff (o : JogOutcome) {c : Channel} (h : c.KeptOrOff (s.channel b)) :
    c.KeptOrOff ((s.endJogs o toOff).channel b) := by
  obtain ⟨-, -, hchannel, -⟩ := State.endJogs_spec hs o toOff
  rw [hchannel b hb]
  split
  · exact h.toOff
  · exact h

theorem State.finishRemaining_toOff (o : RefOutcome) {c : Channel} (h : c.KeptOrOff (s.channel b)) :
    c.KeptOrOff ((s.finishRemaining o toOff).channel b) := by
  obtain ⟨-, -, hchannel, -⟩ := State.finishRemaining_spec hs o toOff
  rw [hchannel b hb]
  split
  · exact h.toOff
  · exact h

/-- Whichever of the jogs and the referencing end first (log 9), a channel is kept or OFF. -/
theorem State.endMotions_toOff (jo : JogOutcome) (ro : RefOutcome) :
    (s.channel b).KeptOrOff ((s.endMotions jo ro toOff toOff).channel b) := by
  have hkept : (s.channel b).KeptOrOff (s.channel b) := .inl rfl
  have hlength (u : State) (hu : u.channels.length = 64) :
      (u.endJogs jo toOff).channels.length = 64 ∧ (u.finishRemaining ro toOff).channels.length = 64 :=
    ⟨(State.endJogs_spec hu jo toOff).2.1, (State.finishRemaining_spec hu ro toOff).2.1⟩
  unfold State.endMotions
  split
  · split
    · exact State.finishRemaining_toOff (hlength s.draw hs).1 hb ro (State.endJogs_toOff (s := s.draw) hs hb jo hkept)
    · exact State.endJogs_toOff (hlength s.draw hs).2 hb jo (State.finishRemaining_toOff (s := s.draw) hs hb ro hkept)
  · exact State.finishRemaining_toOff (hlength s hs).1 hb ro (State.endJogs_toOff hs hb jo hkept)

end

theorem State.endMotions_referencing (s : State) (jo : JogOutcome) (ro : RefOutcome) (f g : Channel → Channel) :
    (s.endMotions jo ro f g).referencing = none := by
  unfold State.endMotions
  split
  · split <;> simp
  · simp

/-- With no jog and no referencing nothing ends. -/
theorem State.endMotions_of_none {s : State} (hj : s.anyJog = false) (hr : s.referencing = none) (jo : JogOutcome)
    (ro : RefOutcome) (f g : Channel → Channel) : s.endMotions jo ro f g = s := by
  have hjogs (bs : List Nat) : bs.foldl (fun s b => s.endJog b jo f) s = s := by
    induction bs with
    | nil => rfl
    | cons b bs ih =>
      have hb : s.endJog b jo f = s := by simp [State.endJog, State.jog_of_anyJog hj b]
      rw [List.foldl_cons, hb, ih]
  simp [State.endMotions, hr, State.endJogs, hjogs, State.finishRemaining]

/-! ### Entry into STANDBY (09, R165) -/

/-- The part as it enters STANDBY, with the motions ended, before its lists and channels are cleared. -/
def State.motionsAborted (s : State) : State :=
  ((s.enter .standby).updRun fun r => { r with halt := none }).endMotions .aborted .aborted toOff toOff

/-- The channels of an entry into STANDBY: OFF where a bar is assigned (07, R125). -/
def State.stoodDown (s : State) : State := s.motionsAborted.mapChannels fun _ c => if c.state = .absent then c else toOff c

theorem State.stoodDown_run (s : State) : s.stoodDown.run = { s.run with
    state := .standby, requested := none, waiting := false, changing := false, halt := none } := by
  simp [State.stoodDown, State.motionsAborted, State.enter]

theorem State.stoodDown_keeps (s : State) :
    s.stoodDown.tracker = s.tracker ∧ s.stoodDown.machine = s.machine ∧ s.stoodDown.profiles = s.profiles ∧
    s.stoodDown.assign = s.assign ∧ s.stoodDown.store = s.store ∧ s.stoodDown.player = s.player ∧
    s.stoodDown.lists = s.lists ∧ s.stoodDown.permitLine = s.permitLine := by
  simp [State.stoodDown, State.motionsAborted, State.enter]

/-- The part as it enters STANDBY, before the notice. -/
def State.standingBy (s : State) : State :=
  let d := s.stoodDown
  { d with
    planner := ⟨0, .none⟩, lists := { Lists.initial with source := d.lists.source }
    player := { d.player with feedStopped := false }, run := { d.run with published := 0 }
    permitLine := { d.permitLine with due := true } }

/-- The clearing of the lists outside RUN, with the permit frame that it lets fall due (05, R84; 09, R155). -/
theorem State.clearLists_permitDue_of_ne_run {s : State} (h : s.run.state ≠ .run) (f : Player → Player) :
    (s.clearLists.updPlayer f).permitDue = { s with
      planner := ⟨0, .none⟩, lists := s.lists.cleared, player := f s.player, run := { s.run with published := 0 }
      permitLine := { s.permitLine with due := true } } :=
  congrArg (State.updPlayer · f) (State.replan_permitDue_of_ne_run (s := s.updLists Lists.cleared) h)

theorem State.enterStandby_eq (s : State) : s.enterStandby = s.standingBy.notifyReached s.run.state s.faultedSet := by
  have hstate : (s.stoodDown.updLists Lists.closeStream).run.state ≠ .run := by simp [s.stoodDown_run]
  have hstands : (((s.stoodDown.updLists Lists.closeStream).clearLists.updPlayer fun p =>
      { p with feedStopped := false }).permitDue) = s.standingBy := State.clearLists_permitDue_of_ne_run hstate _
  rewrite [← hstands]
  rfl

/-- STANDBY is entered with nothing requested, no halt record and a published permit of 0. -/
theorem State.enterStandby_run (s : State) : s.enterStandby.run = { s.run with
    state := .standby, requested := none, waiting := false, changing := false, published := 0, halt := none } := by
  have hrun : s.standingBy.run = { s.stoodDown.run with published := 0 } := rfl
  rw [s.stoodDown_run] at hrun
  rw [State.enterStandby_eq]
  exact hrun

/-- Every channel that was not ABSENT is OFF, unreferenced, where it stood. -/
theorem State.channel_stoodDown {s : State} {b : Nat} (hs : s.channels.length = 64) (hb : barExists b = true) :
    (s.stoodDown.channel b).setpoint = (s.channel b).setpoint ∧
    ((s.channel b).state ≠ .absent → (s.stoodDown.channel b).state = .off ∧ (s.stoodDown.channel b).referenced = false) := by
  have hmapped : s.stoodDown.channel b =
      if (s.motionsAborted.channel b).state = .absent then s.motionsAborted.channel b else toOff (s.motionsAborted.channel b) :=
    State.channel_mapChannels_of_initial hb rfl
  have hkept : (s.channel b).KeptOrOff (s.motionsAborted.channel b) :=
    State.endMotions_toOff (s := (s.enter .standby).updRun fun r => { r with halt := none }) hs hb .aborted .aborted
  rw [hmapped]
  rcases hkept with hsame | ⟨hoff, hplace⟩
  · rw [hsame]
    split
    next habsent => exact ⟨rfl, fun hne => absurd habsent hne⟩
    next => exact ⟨rfl, fun _ => ⟨rfl, rfl⟩⟩
  · rw [if_neg (by rw [hoff]; nofun)]
    exact ⟨hplace, fun _ => ⟨rfl, rfl⟩⟩

end Sys2Proof.Machine
end

section
/-! PROOF. SET_RUN_STATE (09, R156 to R158): the refusals in order, and what each transition of the table leaves. -/

namespace Sys2Proof.Machine

-- One declaration at a time: many at once would each hold a thread's stack.
set_option Elab.async false

/-! ### The refusals (09, R156) -/

theorem State.setRunState_of_badField {s : State} {code : Nat} (h : 2 < code) : s.setRunState code = (s, badField 0) := by
  have htarget : targetOf code = none := by
    unfold targetOf
    split
    · omega
    · omega
    · omega
    · rfl
  rw [State.setRunState, htarget]

theorem targetOf_of_le {code : Nat} (h : code ≤ 2) : ∃ t, targetOf code = some t := by
  interval_cases code
  · exact ⟨.standby, rfl⟩
  · exact ⟨.hold, rfl⟩
  · exact ⟨.run, rfl⟩

theorem State.setRunState_of_changing {s : State} {code : Nat} (h : code ≤ 2) (hc : s.run.changing = true) :
    s.setRunState code = (s, refuse .busy) := by
  obtain ⟨t, ht⟩ := targetOf_of_le h
  rw [State.setRunState, ht]
  exact if_pos hc

/-- A request toward RUN in HOLD that its own table refuses. -/
theorem State.setRunState_of_refuseRun {s : State} {a : Answer} (hc : s.run.changing = false) (hs : s.run.state = .hold)
    (ha : s.refuseRun = some a) : s.setRunState 2 = (s, a) := by
  simp [State.setRunState, targetOf, hc, hs, ha]

/-! ### The requests that are taken up (09, R157, R158) -/

/-- The part as the request is registered, as bad or not (R158). -/
def State.heard (s : State) (bad : Bool) : State := s.updRun fun r => { r with badRequest := bad }

theorem State.setRunState_of_good {s : State} {code : Nat} {t : Target} (ht : targetOf code = some t)
    (hc : s.run.changing = false) (hbad : s.registersBad t = false)
    (hrun : s.run.state = .hold → t = .run → s.refuseRun = none) :
    s.setRunState code = (((s.heard false).takeUp t).settleRun, ⟨.ok, []⟩) := by
  have hrefuse : (if s.run.state = .hold && t = .run then s.refuseRun else none) = none := by
    split
    next h =>
      obtain ⟨hs, htarget⟩ : s.run.state = .hold ∧ t = .run := by simpa using h
      exact hrun hs htarget
    next => rfl
  simp only [State.setRunState, ht, hc, hrefuse, hbad]
  rfl

/-- RUN asked for in STANDBY or HALT is registered as bad and acts as HOLD. -/
theorem State.setRunState_of_bad {s : State} (hc : s.run.changing = false)
    (hs : s.run.state = .standby ∨ s.run.state = .halt) :
    s.setRunState 2 = (((s.heard true).takeUp .hold).settleRun, ⟨.registeredBad, []⟩) := by
  have hbad : s.registersBad .run = true := by rcases hs with h | h <;> simp [State.registersBad, h]
  have hhold : s.run.state ≠ .hold := by rcases hs with h | h <;> rw [h] <;> nofun
  simp only [State.setRunState, targetOf, hc, hhold, hbad]
  rfl

/-! ### The table of transitions (09, R157) -/

theorem State.takeUp_of_same {s : State} {t : Target} (h : s.run.state = t.state) : s.takeUp t = s.cancelWait := if_pos h

theorem State.takeUp_hold_of_standby {s : State} (h : s.run.state = .standby) :
    s.takeUp .hold = (s.updRun fun r => { r with changing := true, requested := some .hold }).enableAll := by
  simp [State.takeUp, h, Target.state]

theorem State.takeUp_standby_of_hold {s : State} (h : s.run.state = .hold) : s.takeUp .standby = s.enterStandby := by
  simp [State.takeUp, h, Target.state]

theorem State.takeUp_run_of_hold {s : State} (h : s.run.state = .hold) : s.takeUp .run = s.startWait .run := by
  simp [State.takeUp, h, Target.state]

/-- RUN and HALT are left by way of a wait for STOPPED (R163). -/
theorem State.takeUp_of_rolling {s : State} {t : Target} (h : s.run.state = .run ∨ s.run.state = .halt) (ht : t ≠ .run) :
    s.takeUp t = s.startWait t := by
  cases t with
  | run => exact absurd rfl ht
  | standby => rcases h with h | h <;> simp [State.takeUp, h, Target.state]
  | hold => rcases h with h | h <;> simp [State.takeUp, h, Target.state]

/-- A wait outside RUN publishes nothing new. -/
theorem State.startWait_of_published {s : State} (h : s.run.published = 0) (t : Target) :
    s.startWait t = s.updRun fun r => { r with waiting := true, requested := some t } := by
  have hzero : (s.updRun fun r => { r with waiting := true, requested := some t }).permitToPublish = 0 := by
    simp [State.permitToPublish]
  exact if_pos (hzero.trans h.symm)

/-- A leave request's wait publishes a permit of 0 (R154). -/
theorem State.startWait_eq (s : State) (t : Target) : s.startWait t = { s with
    run := { s.run with waiting := true, requested := some t, published := 0 }
    permitLine := { s.permitLine with due := s.permitLine.due || s.run.published != 0 } } :=
  State.publish_zero (s := s.updRun fun r => { r with waiting := true, requested := some t }) (by simp [State.permitToPublish])

/-! ### What becomes due at once (log 5, 25) -/

/-- The one step that is due is taken, where it leaves nothing due. -/
theorem State.settleRun_of_some {s : State} {d : DueStep} (hd : s.dueStep = some d) (hn : (s.perform d).dueStep = none) :
    s.settleRun = s.perform d := by
  have htake : s.takeDue = s.perform d := by rw [State.takeDue, hd]
  rw [State.settleRun, htake, State.takeDue, hn]

theorem State.dueStep_enterHold (s : State) : s.enterHold.dueStep = none := by
  obtain ⟨-, hwaiting, hchanging, -⟩ := s.enterHold_run
  exact State.dueStep_idle hchanging hwaiting

theorem State.dueStep_enterStandby (s : State) : s.enterStandby.dueStep = none := by
  have hrun := s.enterStandby_run
  exact State.dueStep_idle (congrArg RunControl.changing hrun) (congrArg RunControl.waiting hrun)

/-- A bar that is being enabled is not done energizing. -/
theorem State.doneEnergizing_of_energizing {s : State} {b : Nat} (hb : b ∈ s.assignedBars)
    (hstate : (s.channel b).state = .energizing) : s.doneEnergizing = false :=
  List.all_eq_false.mpr ⟨b, hb, by simp [hstate, ChannelState.holding]⟩

theorem State.allAligned_of_unaligned {s : State} {b : Nat} (hb : b ∈ s.assignedBars) (h : (s.channel b).aligned = false) :
    s.allAligned = false :=
  List.all_eq_false.mpr ⟨b, hb, by simp [h]⟩

theorem State.barExists_of_assigned {s : State} {b : Nat} (hb : b ∈ s.assignedBars) : barExists b = true := by
  have hmem := (List.mem_filter.mp hb).1
  simp only [allBars, List.mem_range'_1] at hmem
  simp only [barExists, Bool.and_eq_true, decide_eq_true_eq]
  omega

/-- A channel of a bar after the enabling began (07, R126). -/
theorem State.channel_enableAll {s : State} {b : Nat} (hb : barExists b = true) : s.enableAll.channel b =
    if s.assigned b = true ∧ (s.channel b).state = .off then enabledChannel (s.channel b) else s.channel b := by
  refine (State.channel_mapChannels_of_initial hb ?_).trans ?_
  · rw [if_neg]
    simp [Channel.initial]
  · simp

theorem State.channel_startAlignment {s : State} {b : Nat} (hb : barExists b = true) :
    s.startAlignment.channel b = s.alignChannel b (s.channel b) := by
  refine State.channel_mapChannels_of_initial hb ?_
  simp [State.alignChannel, Channel.initial]

/-- What a machine fit for RUN has (R160). -/
theorem State.fitForRun_iff (s : State) : s.fitForRun = true ↔
    s.tracker.sync = .locked ∧ s.tracker.stopped = true ∧
    (∀ b ∈ s.assignedBars, (s.channel b).state.holding = true ∧ (s.channel b).referenced = true) ∧
    s.lists.current.isSome = true ∧ (s.tracker.angle < s.machine.ulStart ∨ s.lists.successor.isSome = true) ∧
    s.player.search = none := by
  simp [State.fitForRun, and_assoc]

/-- A holding channel that is asked to align has not reported it. -/
theorem State.alignChannel_unaligned {s : State} {b : Nat} {c : Channel} (ha : s.assigned b = true)
    (hc : c.state.holding = true) : (s.alignChannel b c).aligned = false := by
  rcases ChannelState.holding_iff.mp hc with h | h <;> simp [State.alignChannel, ha, h, settled]

/-- Where a bar is assigned an alignment does not end at its start. -/
theorem State.dueStep_startAlignment {s : State} (hs : s.run.state = .hold) (hr : s.run.requested = some .run)
    (hfit : s.fitForRun = true) (hbars : s.assignedBars ≠ []) : s.startAlignment.dueStep = none := by
  obtain ⟨b, hb⟩ := List.exists_mem_of_ne_nil _ hbars
  obtain ⟨-, -, hholds, -⟩ := s.fitForRun_iff.mp hfit
  have hunaligned : (s.startAlignment.channel b).aligned = false := by
    rw [State.channel_startAlignment (State.barExists_of_assigned hb)]
    exact State.alignChannel_unaligned (List.mem_filter.mp hb).2 (hholds b hb).1
  rw [State.dueStep_aligning (s := s.startAlignment) rfl hr hs, State.allAligned_of_unaligned (s := s.startAlignment) hb hunaligned]
  rfl

theorem State.dueStep_publish_of_idle {s : State} (hc : s.run.changing = false) (hw : s.run.waiting = false) :
    s.publish.dueStep = none := by
  have hrun := s.publish_run
  exact State.dueStep_idle ((congrArg RunControl.changing hrun).trans hc) ((congrArg RunControl.waiting hrun).trans hw)

theorem State.publish_taken (s : State) (tag : Tag) (r : Request) : (s.taken tag r).publish = s.publish.taken tag r :=
  State.publish_updLink s _

/-- The part as its request toward a target waits. -/
def State.asking (s : State) (t : Target) (bad : Bool) : State :=
  { s with run := { s.run with waiting := true, requested := some t, badRequest := bad } }

theorem State.dueStep_asking_run {s : State} (hc : s.run.changing = false) (hs : s.run.state = .hold) (bad : Bool) :
    (s.asking .run bad).dueStep = if s.fitForRun then some .alignmentStart else none :=
  State.dueStep_waiting (s := s.asking .run bad) hc rfl rfl hs

theorem State.takeUp_run_of_published {s : State} (hs : s.run.state = .hold) (hpub : s.run.published = 0) :
    (s.heard false).takeUp .run = s.asking .run false :=
  (State.takeUp_run_of_hold (s := s.heard false) hs).trans (State.startWait_of_published (s := s.heard false) hpub .run)

/-- The part as a leave request waits for STOPPED, with a published permit of 0 (R154, R163). -/
def State.leaving (s : State) (t : Target) (bad : Bool) : State :=
  { s with
    run := { s.run with waiting := true, requested := some t, badRequest := bad, published := 0 }
    permitLine := { s.permitLine with due := s.permitLine.due || s.run.published != 0 } }

theorem State.takeUp_of_leaving {s : State} {t : Target} (hs : s.run.state = .run ∨ s.run.state = .halt) (ht : t ≠ .run)
    (bad : Bool) : (s.heard bad).takeUp t = s.leaving t bad :=
  (State.takeUp_of_rolling (s := s.heard bad) hs ht).trans ((s.heard bad).startWait_eq t)

/-- Until the shaft is STOPPED nothing is due. -/
theorem State.settleRun_leaving_of_moving {s : State} {t : Target} (hc : s.run.changing = false)
    (hs : s.run.state = .run ∨ s.run.state = .halt) (ht : t ≠ .run) (bad : Bool) (hmoves : s.tracker.stopped = false) :
    (s.leaving t bad).settleRun = s.leaving t bad ∧ (s.leaving t bad).dueStep = none := by
  have hdue : (s.leaving t bad).dueStep = none := by
    cases t with
    | run => exact absurd rfl ht
    | hold =>
      exact (State.dueStep_leavingToHold (s := s.leaving .hold bad) hc rfl rfl hs).trans (if_neg (Bool.eq_false_iff.mp hmoves))
    | standby =>
      exact (State.dueStep_leavingToStandby (s := s.leaving .standby bad) hc rfl rfl hs).trans
        (if_neg (Bool.eq_false_iff.mp hmoves))
  exact ⟨State.settleRun_of_none hdue, hdue⟩

/-- The part entered what its target names: nothing requested, no halt record, a published permit of 0. -/
def State.Entered (v : State) (t : Target) (bad : Bool) : Prop :=
  v.run.state = t.state ∧ v.run.waiting = false ∧ v.run.requested = none ∧ v.run.halt = none ∧ v.run.published = 0 ∧
  v.run.badRequest = bad

/-- On a standing shaft the leave request is carried out at once (R163 to R165). -/
theorem State.settleRun_leaving_of_stopped {s : State} {t : Target} (hc : s.run.changing = false)
    (hs : s.run.state = .run ∨ s.run.state = .halt) (ht : t ≠ .run) (bad : Bool) (hstands : s.tracker.stopped = true) :
    (s.leaving t bad).settleRun.Entered t bad ∧ (s.leaving t bad).settleRun.dueStep = none := by
  cases t with
  | run => exact absurd rfl ht
  | hold =>
    have hdue := (State.dueStep_leavingToHold (s := s.leaving .hold bad) hc rfl rfl hs).trans (if_pos hstands)
    rw [State.settleRun_of_some hdue (State.dueStep_enterHold _)]
    obtain ⟨hstate, hwaiting, -, hrequested, hhalt, hpublished, hbad⟩ := (s.leaving .hold bad).enterHold_run
    exact ⟨⟨hstate, hwaiting, hrequested, hhalt, hpublished, hbad⟩, State.dueStep_enterHold _⟩
  | standby =>
    have hdue := (State.dueStep_leavingToStandby (s := s.leaving .standby bad) hc rfl rfl hs).trans (if_pos hstands)
    rw [State.settleRun_of_some hdue (State.dueStep_enterStandby _)]
    have hrun := (s.leaving .standby bad).enterStandby_run
    exact ⟨⟨congrArg RunControl.state hrun, congrArg RunControl.waiting hrun, congrArg RunControl.requested hrun,
      congrArg RunControl.halt hrun, congrArg RunControl.published hrun, congrArg RunControl.badRequest hrun⟩,
      State.dueStep_enterStandby _⟩

/-- The part as the enabling of its channels begins (R157, R158). -/
def State.enabling (s : State) (bad : Bool) : State :=
  ((s.heard bad).updRun fun r => { r with changing := true, requested := some .hold }).enableAll

theorem State.dueStep_enabling_of_off {s : State} (bad : Bool) (hs : s.run.state = .standby) {b : Nat}
    (hb : b ∈ s.assignedBars) (hoff : (s.channel b).state = .off) : (s.enabling bad).dueStep = none := by
  have hassigned : s.assigned b = true := (List.mem_filter.mp hb).2
  have hchannel := State.channel_enableAll (s := (s.heard bad).updRun fun r =>
    { r with changing := true, requested := some .hold }) (State.barExists_of_assigned hb)
  have henergizing : ((s.enabling bad).channel b).state = .energizing := by
    rw [State.enabling, hchannel, if_pos ⟨hassigned, hoff⟩]
    rfl
  rw [State.dueStep_enabling (s := s.enabling bad) rfl rfl hs,
    State.doneEnergizing_of_energizing (s := s.enabling bad) hb henergizing]
  rfl

/-! ### SET_RUN_STATE, by the rows of its table -/

section

variable {s : State} (hq : s.Quiet) (hp : s.PortFree) (tag : Tag)
include hq hp

theorem exec_setRunState {code : Nat} {t : State} {a : Answer}
    (hh : (s.taken tag (.setRunState code)).setRunState code = (t, a)) (hd : t.dueStep = none) :
    exec (.setRunState tag code) s = .next (t.answered tag (.setRunState code) a.result a.payload) :=
  exec_accepted (c := .setRunState tag code) rfl hq hp hh hd

theorem exec_setRunState_refused {code : Nat} {a : Answer}
    (hh : (s.taken tag (.setRunState code)).setRunState code = (s.taken tag (.setRunState code), a)) :
    exec (.setRunState tag code) s = .next (s.replies tag (.setRunState code) a.result a.payload) :=
  exec_refused (c := .setRunState tag code) rfl hq hp hh

theorem exec_setRunState_good {code : Nat} {t : Target} {v : State} (ht : targetOf code = some t)
    (hc : s.run.changing = false) (hbad : s.registersBad t = false)
    (hrun : s.run.state = .hold → t = .run → s.refuseRun = none)
    (hv : (((s.taken tag (.setRunState code)).heard false).takeUp t).settleRun = v) (hd : v.dueStep = none) :
    exec (.setRunState tag code) s = .next (v.answered tag (.setRunState code) .ok []) := by
  have hset := State.setRunState_of_good (s := s.taken tag (.setRunState code)) ht hc hbad hrun
  rw [hv] at hset
  exact exec_setRunState hq hp tag hset hd

theorem exec_setRunState_bad {v : State} (hc : s.run.changing = false) (hs : s.run.state = .standby ∨ s.run.state = .halt)
    (hv : (((s.taken tag (.setRunState 2)).heard true).takeUp .hold).settleRun = v) (hd : v.dueStep = none) :
    exec (.setRunState tag 2) s = .next (v.answered tag (.setRunState 2) .registeredBad []) := by
  have hset := State.setRunState_of_bad (s := s.taken tag (.setRunState 2)) hc hs
  rw [hv] at hset
  exact exec_setRunState hq hp tag hset hd

/-- The present state as target cancels a wait (R157). -/
theorem exec_setRunState_present {code : Nat} {t : Target} (ht : targetOf code = some t) (hc : s.run.changing = false)
    (hs : s.run.state = t.state) : exec (.setRunState tag code) s = .next
      (({ s with run := { s.run with waiting := false, requested := none, badRequest := false } }.publish.taken tag
        (.setRunState code)).answered tag (.setRunState code) .ok []) := by
  have hbad : s.registersBad t = false := by cases t <;> simp [State.registersBad, hs, Target.state]
  have hrun : s.run.state = .hold → t = .run → s.refuseRun = none := by
    rintro hhold rfl
    rw [hs] at hhold
    nomatch hhold
  have hup : ((s.taken tag (.setRunState code)).heard false).takeUp t =
      { s with run := { s.run with waiting := false, requested := none, badRequest := false } }.publish.taken tag
        (.setRunState code) :=
    (State.takeUp_of_same (s := (s.taken tag (.setRunState code)).heard false) hs).trans (State.publish_taken
      { s with run := { s.run with waiting := false, requested := none, badRequest := false } } tag (.setRunState code))
  have hidle := State.dueStep_publish_of_idle
    (s := { s with run := { s.run with waiting := false, requested := none, badRequest := false } }) hc rfl
  exact exec_setRunState_good hq hp tag ht hc hbad hrun (by rw [hup]; exact State.settleRun_of_none hidle) hidle

/-- From STANDBY the OFF channels are enabled (R157, R158). -/
theorem exec_setRunState_enables {code : Nat} (hcode : code = 1 ∨ code = 2) (hc : s.run.changing = false)
    (hs : s.run.state = .standby) {b : Nat} (hb : b ∈ s.assignedBars) (hoff : (s.channel b).state = .off) :
    exec (.setRunState tag code) s = .next
      (((s.taken tag (.setRunState code)).enabling (code == 2)).answered tag (.setRunState code)
        (if code = 1 then .ok else .registeredBad) []) := by
  have hdue (bad : Bool) : ((s.taken tag (.setRunState code)).enabling bad).dueStep = none :=
    State.dueStep_enabling_of_off (s := s.taken tag (.setRunState code)) bad hs hb hoff
  have hsettled (bad : Bool) : (((s.taken tag (.setRunState code)).heard bad).takeUp .hold).settleRun =
      (s.taken tag (.setRunState code)).enabling bad := by
    rw [State.takeUp_hold_of_standby (s := (s.taken tag (.setRunState code)).heard bad) hs]
    exact State.settleRun_of_none (hdue bad)
  rcases hcode with rfl | rfl
  · exact exec_setRunState_good hq hp tag (t := .hold) rfl hc rfl nofun (hsettled false) (hdue false)
  · exact exec_setRunState_bad hq hp tag hc (.inl hs) (hsettled true) (hdue true)

/-- HOLD is left for STANDBY at once (R157, R165). -/
theorem exec_setRunState_standby (hc : s.run.changing = false) (hs : s.run.state = .hold) :
    exec (.setRunState tag 0) s = .next
      (((s.taken tag (.setRunState 0)).heard false).enterStandby.answered tag (.setRunState 0) .ok []) := by
  refine exec_setRunState_good hq hp tag (t := .standby) rfl hc rfl nofun ?_ (State.dueStep_enterStandby _)
  rw [State.takeUp_standby_of_hold (s := (s.taken tag (.setRunState 0)).heard false) hs]
  exact State.settleRun_of_none (State.dueStep_enterStandby _)

/-- A request toward RUN that finds the machine unfit waits (R160). -/
theorem exec_setRunState_waits (hc : s.run.changing = false) (hs : s.run.state = .hold) (hpub : s.run.published = 0)
    (hrun : s.refuseRun = none) (hfit : s.fitForRun = false) :
    exec (.setRunState tag 2) s = .next
      (((s.asking .run false).taken tag (.setRunState 2)).answered tag (.setRunState 2) .ok []) := by
  have hup := State.takeUp_run_of_published (s := s.taken tag (.setRunState 2)) hs hpub
  have hdue := (State.dueStep_asking_run (s := s.taken tag (.setRunState 2)) hc hs false).trans (if_neg (Bool.eq_false_iff.mp hfit))
  exact exec_setRunState_good hq hp tag (t := .run) rfl hc (by simp [State.registersBad, hs]) (fun _ _ => hrun)
    ((congrArg State.settleRun hup).trans (State.settleRun_of_none hdue)) hdue

/-- A request toward RUN that finds the machine fit starts the alignment (R160, R161). -/
theorem exec_setRunState_aligns (hc : s.run.changing = false) (hs : s.run.state = .hold) (hpub : s.run.published = 0)
    (hrun : s.refuseRun = none) (hfit : s.fitForRun = true) (hbars : s.assignedBars ≠ []) :
    exec (.setRunState tag 2) s = .next
      (((s.asking .run false).taken tag (.setRunState 2)).startAlignment.answered tag (.setRunState 2) .ok []) := by
  have hup := State.takeUp_run_of_published (s := s.taken tag (.setRunState 2)) hs hpub
  have hdue := (State.dueStep_asking_run (s := s.taken tag (.setRunState 2)) hc hs false).trans (if_pos hfit)
  have hnone := State.dueStep_startAlignment (s := (s.asking .run false).taken tag (.setRunState 2)) hs rfl hfit hbars
  exact exec_setRunState_good hq hp tag (t := .run) rfl hc (by simp [State.registersBad, hs]) (fun _ _ => hrun)
    ((congrArg State.settleRun hup).trans (State.settleRun_of_some hdue hnone)) hnone

/-- A leave request waits for STOPPED (R163). -/
theorem exec_setRunState_leaves {code : Nat} (hc : s.run.changing = false)
    (hs : (s.run.state = .run ∧ code ≤ 1) ∨ (s.run.state = .halt ∧ code ≤ 2)) :
    let w := s.taken tag (.setRunState code)
    let v := (w.leaving (if code = 0 then .standby else .hold) (code == 2)).settleRun
    v.dueStep = none → exec (.setRunState tag code) s =
      .next (v.answered tag (.setRunState code) (if code = 2 then .registeredBad else .ok) []) := by
  intro w v hnone
  have hrolls : s.run.state = .run ∨ s.run.state = .halt := hs.imp And.left And.left
  have hup {t : Target} (ht : t ≠ .run) (bad : Bool) : (w.heard bad).takeUp t = w.leaving t bad :=
    State.takeUp_of_leaving (s := w) hrolls ht bad
  have hhold : s.run.state ≠ .hold := by rcases hrolls with h | h <;> rw [h] <;> nofun
  have hcode : code = 0 ∨ code = 1 ∨ code = 2 := by omega
  rcases hcode with rfl | rfl | rfl
  · exact exec_setRunState_good hq hp tag (t := .standby) rfl hc rfl (fun h => absurd h hhold)
      (congrArg State.settleRun (hup (t := .standby) nofun false)) hnone
  · exact exec_setRunState_good hq hp tag (t := .hold) rfl hc rfl (fun h => absurd h hhold)
      (congrArg State.settleRun (hup (t := .hold) nofun false)) hnone
  · have hhalt : s.run.state = .halt := by
      rcases hs with ⟨-, hle⟩ | ⟨h, -⟩
      · omega
      · exact h
    exact exec_setRunState_bad hq hp tag hc (.inr hhalt) (congrArg State.settleRun (hup (t := .hold) nofun true)) hnone

end

/-! ### The refusals toward RUN (09, R156) -/

theorem State.refuseRun_of_unreferenced {s : State} {b : Nat}
    (h : s.assignedBars.find? (fun x => !(s.channel x).referenced) = some b) :
    s.refuseRun = some ⟨.notReferenced, [byteOf b]⟩ := by
  rw [State.refuseRun, h]

section

variable {s : State} (h : ∀ x ∈ s.assignedBars, (s.channel x).referenced = true)
include h

/-- With every assigned bar referenced the source of the courses decides. -/
theorem State.refuseRun_of_referenced : s.refuseRun =
    if s.lists.source = .player && s.player.active.isNone then some (refuse .noSequence)
    else if s.lists.source = .stream && !s.lists.streamOpen && !s.lists.endSeen then some (refuse .noStream)
    else none := by
  have hnone : s.assignedBars.find? (fun x => !(s.channel x).referenced) = none :=
    List.find?_eq_none.mpr fun x hx => by simp [h x hx]
  rw [State.refuseRun, hnone]

theorem State.refuseRun_of_noSequence (hsource : s.lists.source = .player) (ha : s.player.active = none) :
    s.refuseRun = some (refuse .noSequence) := by
  rw [State.refuseRun_of_referenced h, if_pos (by simp [hsource, ha])]

theorem State.refuseRun_of_noStream (hsource : s.lists.source = .stream) (hopen : s.lists.streamOpen = false)
    (hend : s.lists.endSeen = false) : s.refuseRun = some (refuse .noStream) := by
  rw [State.refuseRun_of_referenced h, if_neg (by simp [hsource]), if_pos (by simp [hsource, hopen, hend])]

theorem State.refuseRun_of_supplied (hplayer : s.lists.source = .player → s.player.active.isSome = true)
    (hstream : s.lists.source = .stream → s.lists.streamOpen = true ∨ s.lists.endSeen = true) : s.refuseRun = none := by
  rw [State.refuseRun_of_referenced h]
  cases hsource : s.lists.source with
  | player => simp [Option.isSome_iff_ne_none.mp (hplayer hsource)]
  | stream =>
    rcases hstream hsource with hopen | hend
    · simp [hopen]
    · simp [hend]

end

/-! ### The statement -/

/-- What the enabling leaves of the part, with its answer on its way. -/
theorem State.enabling_answered (s : State) (tag : Tag) {code : Nat} (hcode : code = 1 ∨ code = 2) :
    let t := ((s.taken tag (.setRunState code)).enabling (code == 2)).answered tag (.setRunState code)
      (if code = 1 then .ok else .registeredBad) []
    t.run = { s.run with changing := true, requested := some .hold, badRequest := code == 2 } ∧
    { t with run := s.run, channels := s.channels, link := s.link } = s ∧
    t.link.tx = some ⟨tag, 0xD2, [if code = 1 then 0x00 else 0x15, byteOf s.room, t.flagByte, 0]⟩ ∧
    ∀ b, barExists b = true → if s.assigned b = true ∧ (s.channel b).state = .off then
        (t.channel b).state = .energizing ∧ (t.channel b).enableTimer = some 0 ∧ (t.channel b).pendingMove = none ∧
        (t.channel b).setpoint = (s.channel b).setpoint
      else t.channel b = s.channel b := by
  intro t
  refine ⟨rfl, by cases s; rfl, ?_, fun b hb => ?_⟩
  · rcases hcode with rfl | rfl <;> rfl
  · have hchannel : t.channel b =
        if s.assigned b = true ∧ (s.channel b).state = .off then enabledChannel (s.channel b) else s.channel b :=
      State.channel_enableAll (s := ((s.taken tag (.setRunState code)).heard (code == 2)).updRun fun r =>
        { r with changing := true, requested := some .hold }) hb
    rw [hchannel]
    split
    · exact ⟨rfl, rfl, rfl, rfl⟩
    · rfl

/-- Settles O47: by the state that the request finds and its target. -/
theorem runStateRequestsFollowTheirTable : Obligations.RunStateRequestsFollowTheirTable := by
  intro tag code s hq hp hpermit r out
  have hzero (hs : s.run.state = .hold) : s.run.published = 0 := hpermit (.inl (by rw [hs]; nofun))
  refine ⟨fun hcode => ?_, fun hcode hc => ?_, fun hc hs hcode => ?_, fun hc hsame => ?_, fun hc hs hcode _ hoff => ?_,
    fun hc hs hcode => ?_, fun hc hs => ⟨fun hmoves => ?_, fun hstands => ?_⟩⟩
  · exact exec_setRunState_refused hq hp tag (State.setRunState_of_badField hcode)
  · exact exec_setRunState_refused hq hp tag (State.setRunState_of_changing (s := s.taken tag r) hcode hc)
  · subst hcode
    have hrefused {a : Answer} (ha : s.refuseRun = some a) : out = .next (s.replies tag r a.result a.payload) :=
      exec_setRunState_refused hq hp tag (State.setRunState_of_refuseRun (s := s.taken tag r) hc hs ha)
    refine ⟨fun b hb => hrefused (State.refuseRun_of_unreferenced hb), fun href => ⟨fun hsource ha => ?_,
      fun hsource hopen hend => ?_, fun hplayer hstream => ?_⟩⟩
    · exact hrefused (State.refuseRun_of_noSequence href hsource ha)
    · exact hrefused (State.refuseRun_of_noStream href hsource hopen hend)
    · have hsupplied := State.refuseRun_of_supplied href hplayer hstream
      exact ⟨fun hfit => exec_setRunState_waits hq hp tag hc hs (hzero hs) hsupplied hfit, fun hfit hbars =>
        ⟨_, exec_setRunState_aligns hq hp tag hc hs (hzero hs) hsupplied hfit hbars, rfl⟩⟩
  · rcases hsame with ⟨rfl, hs⟩ | ⟨rfl, hs⟩ | ⟨rfl, hs⟩
    · exact exec_setRunState_present hq hp tag (t := .standby) rfl hc hs
    · exact exec_setRunState_present hq hp tag (t := .hold) rfl hc hs
    · exact exec_setRunState_present hq hp tag (t := .run) rfl hc hs
  · obtain ⟨b, hb, hoff⟩ := hoff
    exact ⟨_, exec_setRunState_enables hq hp tag hcode hc hs hb hoff, s.enabling_answered tag hcode⟩
  · subst hcode
    exact exec_setRunState_standby hq hp tag hc hs
  · have hrolls : s.run.state = .run ∨ s.run.state = .halt := hs.imp And.left And.left
    obtain ⟨hsettled, hdue⟩ := State.settleRun_leaving_of_moving (s := s.taken tag r)
      (t := if code = 0 then .standby else .hold) hc hrolls (by split <;> nofun) (code == 2) hmoves
    have hleaves := exec_setRunState_leaves hq hp tag hc hs (by rw [hsettled]; exact hdue)
    rw [hsettled] at hleaves
    exact hleaves
  · have hrolls : s.run.state = .run ∨ s.run.state = .halt := hs.imp And.left And.left
    obtain ⟨hentered, hdue⟩ := State.settleRun_leaving_of_stopped (s := s.taken tag r)
      (t := if code = 0 then .standby else .hold) hc hrolls (by split <;> nofun) (code == 2) hstands
    obtain ⟨hstate, hkept⟩ := hentered
    refine ⟨_, exec_setRunState_leaves hq hp tag hc hs hdue, hstate.trans ?_, hkept⟩
    split <;> rfl

end Sys2Proof.Machine
end

section
/-! PROOF. The entries into HOLD and STANDBY by their own rows (09, R159, R163 to R165, R170): when each is due, and the notice that
comes last. -/

namespace Sys2Proof.Machine

-- One declaration at a time: many at once would each hold a thread's stack.
set_option Elab.async false

/-- The row of a step takes it when it is the one that is due (log 5). -/
theorem State.ownStep_of_due {s : State} {d : DueStep} (hheld : s.isHeld = false) (hd : s.dueStep = some d) :
    s.ownStep d = s.perform d := by
  rw [State.ownStep, if_pos (by simp [hheld, hd])]

theorem State.doneEnergizing_iff (s : State) : s.doneEnergizing = true ↔
    ∀ b ∈ s.assignedBars, (s.channel b).state.holding = true ∨ (s.channel b).state = .faulted := by
  simp [State.doneEnergizing]

theorem State.notifyReached_of_hold {s : State} (h : s.run.state = .hold) (before : RunState) (faulted : BarSet) :
    s.notifyReached before faulted =
      s.notify (.stateReached faulted) (if faulted = 0 then 0x01 else 0x81) (runStateCode before) := by
  have hdetail : runStateCode s.run.state + (if faulted = 0 then 0 else 0x80) = if faulted = 0 then 0x01 else 0x81 := by
    rw [h]
    split <;> rfl
  rw [State.notifyReached, hdetail]

/-- A feed leaves HOLD as it is, and the notice comes after it. -/
theorem State.notifyReached_feed_of_hold {s : State} (h : s.run.state = .hold) (before : RunState) (faulted : BarSet) :
    s.feed.notifyReached before faulted =
      s.feed.notify (.stateReached faulted) (if faulted = 0 then 0x01 else 0x81) (runStateCode before) :=
  State.notifyReached_of_hold (s.feed_run_keeps.1.trans h) before faulted

/-- What entry into HOLD leaves of a channel: FOLLOWING holds, FAULTED is enabled, each at its place (07, R125). -/
theorem holdChannel_spec (m : MachineRecord) (c : Channel) :
    let k := holdChannel m c
    k.setpoint = c.setpoint ∧ k.referenced = c.referenced ∧ (c.state = .following → k.state = .idle) ∧
    (c.state = .faulted → k.state = .energizing ∧ k.enableTimer = some 0 ∧ k.readySeen = false) ∧
    (c.state ≠ .following → c.state ≠ .faulted → k = c) := by
  unfold holdChannel
  split
  next h => simp [h, toIdle, settled]
  next h => simp [h, enabledChannel, settled]
  next hfollowing hfaulted =>
    exact ⟨rfl, rfl, fun h => absurd h hfollowing, fun h => absurd h hfaulted, fun _ _ => rfl⟩

theorem State.motionsAborted_referencing (s : State) : s.motionsAborted.referencing = none := by
  rw [State.motionsAborted, State.endMotions_referencing]

/-- Without motions nothing ends before the channels stand down. -/
theorem State.stoodDown_of_none {s : State} (hj : s.anyJog = false) (hr : s.referencing = none) :
    s.stoodDown.link = s.link ∧
    ∀ b, barExists b = true → (s.channel b).state = .absent → s.stoodDown.channel b = s.channel b := by
  have haborted : s.motionsAborted = (s.enter .standby).updRun fun r => { r with halt := none } := by
    rw [State.motionsAborted]
    exact State.endMotions_of_none (s := (s.enter .standby).updRun fun r => { r with halt := none }) hj hr ..
  have hlink : s.motionsAborted.link = s.link := by rw [haborted]; rfl
  refine ⟨hlink, fun b hb habsent => ?_⟩
  have hsame : s.motionsAborted.channel b = s.channel b := State.channel_of_channels (congrArg State.channels haborted) b
  have hmapped : s.stoodDown.channel b =
      if (s.motionsAborted.channel b).state = .absent then s.motionsAborted.channel b else toOff (s.motionsAborted.channel b) :=
    State.channel_mapChannels_of_initial hb rfl
  rw [hmapped, hsame, if_pos habsent]

/-- What the part holds as it enters STANDBY, field by field (09, R165). -/
theorem State.standingBy_spec (s : State) :
    s.standingBy.planner = ⟨0, .none⟩ ∧ s.standingBy.lists = { Lists.initial with source := s.lists.source } ∧
    s.standingBy.player = { s.player with feedStopped := false } ∧ s.standingBy.referencing = none ∧
    s.standingBy.permitLine = { s.permitLine with due := true } ∧ s.standingBy.tracker = s.tracker ∧
    s.standingBy.machine = s.machine ∧ s.standingBy.profiles = s.profiles ∧ s.standingBy.assign = s.assign ∧
    s.standingBy.store = s.store := by
  obtain ⟨htracker, hmachine, hprofiles, hassign, hstore, hplayer, hlists, hline⟩ := s.stoodDown_keeps
  have hreferencing : s.stoodDown.referencing = none := s.motionsAborted_referencing
  dsimp only [State.standingBy]
  rw [htracker, hmachine, hprofiles, hassign, hstore, hplayer, hlists, hline, hreferencing]
  exact ⟨rfl, rfl, rfl, rfl, rfl, rfl, rfl, rfl, rfl, rfl⟩

theorem State.channel_standingBy (s : State) (f : Link → Link) (b : Nat) :
    (s.standingBy.updLink f).channel b = s.stoodDown.channel b :=
  State.channel_of_channels rfl b

/-- The notice of an entry into STANDBY: the lists are cleared, so no record gives it a tag (09, R170). -/
theorem State.standingBy_notifyReached (s : State) (before : RunState) (faulted : BarSet) :
    s.standingBy.notifyReached before faulted = s.standingBy.updLink fun l => l.offer
      ⟨.stateReached faulted, if faulted = 0 then 0x00 else 0x80, runStateCode before, 0, s.tracker.angle⟩ := by
  have hdetail : runStateCode s.standingBy.run.state + (if faulted = 0 then 0 else 0x80) = if faulted = 0 then 0x00 else 0x80 := by
    have hstate : s.standingBy.run.state = .standby := congrArg RunControl.state s.stoodDown_run
    rw [hstate]
    split <;> rfl
  have hangle : s.standingBy.tracker.angle = s.tracker.angle := congrArg Tracker.angle s.stoodDown_keeps.1
  rw [State.notifyReached, hdetail, ← hangle]
  rfl

/-- Settles O48: each entry is due by its conditions, and leaves what its transition says. -/
theorem holdAndStandbyAreEntered : Obligations.HoldAndStandbyAreEntered := by
  intro s hheld hsized faulted entered
  have htakes {d : DueStep} (hd : s.dueStep = some d) : s.ownStep d = s.perform d := State.ownStep_of_due hheld hd
  refine ⟨fun hs hc hr hdone => ?_, fun hs hc hw hstopped => ⟨fun hr => ?_, fun hr => ?_⟩⟩
  · have hdue := (State.dueStep_enabling hc hr hs).trans (if_pos (s.doneEnergizing_iff.mpr hdone))
    have hentry : (s.enter .hold).replan.permitDue = { s with
        run := entered .hold, planner := planOf s.machine s.lists, permitLine := { s.permitLine with due := true } } :=
      State.replan_permitDue_of_ne_run (s := s.enter .hold) nofun
    refine congrArg Host.Outcome.next ((htakes hdue).trans ?_)
    rw [State.perform, State.enterHoldFromStandby, hentry, hs]
    exact State.notifyReached_feed_of_hold rfl _ _
  · have hdue := (State.dueStep_leavingToHold hc hw hr hs).trans (if_pos hstopped)
    refine ⟨s.heldAgain, s.heldAgain_eq, fun b hb => ?_, congrArg Host.Outcome.next ((htakes hdue).trans ?_)⟩
    · rw [State.channel_heldAgain hb]
      exact holdChannel_spec s.machine (s.channel b)
    · have hstate : s.heldAgain.run.state = .hold := by rw [s.heldAgain_eq]
      exact s.enterHold_eq.trans (State.notifyReached_feed_of_hold hstate _ _)
  · have hdue := (State.dueStep_leavingToStandby hc hw hr hs).trans (if_pos hstopped)
    have hexec : exec .enterStandby s = .next s.enterStandby := congrArg Host.Outcome.next (htakes hdue)
    have hrun := s.enterStandby_run
    obtain ⟨hplanner, hlists, hplayer, hreferencing, hline, htracker, hmachine, hprofiles, hassign, hstore⟩ := s.standingBy_spec
    refine ⟨s.enterStandby, hexec, hrun, ?_⟩
    rw [State.enterStandby_eq, State.standingBy_notifyReached]
    simp only [State.channel_standingBy]
    dsimp only [State.updLink]
    refine ⟨hplanner, hlists, hplayer, hreferencing, hline, htracker, hmachine, hprofiles, hassign, hstore, fun b hb => ?_,
      s.standingBy.link, rfl, fun hj hr => (State.stoodDown_of_none hj hr).1⟩
    obtain ⟨hplace, hoff⟩ := State.channel_stoodDown hsized.1 hb
    exact ⟨hplace, hoff, fun habsent hj hr => (State.stoodDown_of_none hj hr).2 b hb habsent⟩

end Sys2Proof.Machine
end

section
/-! PROOF. The alignment and the entry into RUN (09, R160 to R162): the cam place that each channel is sent to, and the machine that
is let run. -/

namespace Sys2Proof.Machine

-- One declaration at a time: many at once would each hold a thread's stack.
set_option Elab.async false

theorem State.mem_assignedBars_iff {s : State} {b : Nat} : b ∈ s.assignedBars ↔ barExists b = true ∧ s.assigned b = true := by
  rw [State.assignedBars, List.mem_filter, mem_allBars_iff]

/-! ### The front position that the underlap leads to (07, R130, R134) -/

/-- The next front position of a bar: the successor's when the underlap leads there, and the back position otherwise. -/
def State.nextFront (s : State) (b : Nat) (lap : BarLap) (ahead : Bool) : Nat :=
  match s.lists.successor.bind (·.lap b) with
  | some next => if ahead then next.front else lap.back
  | none => lap.back

theorem State.alignNext_eq (s : State) (b : Nat) (lap : BarLap) :
    s.alignNext b lap = s.nextFront b lap (s.machine.ulStart ≤ s.tracker.angle) := by
  unfold State.alignNext State.nextFront
  cases s.lists.successor.bind (·.lap b) with
  | none => simp
  | some next => simp

theorem State.boundNext_eq (s : State) (b : Nat) (lap : BarLap) : s.boundNext b lap = s.nextFront b lap s.lists.bound := by
  unfold State.boundNext State.nextFront
  cases s.lists.successor.bind (·.lap b) with
  | none => simp
  | some next => simp

/-- The cam place of a bar at the present angle, by its reference point and its laps (07, R130). -/
def State.camPlace (s : State) (b : Nat) (ref : Int) (lap : BarLap) (ahead : Bool) : Int :=
  let place := coordOf s.machine (s.profile b) ref
  cam s.machine s.tracker.angle (place lap.front) (place lap.back) (place (s.nextFront b lap ahead))

/-- The place in the statement's words. -/
theorem State.camPlace_eq (s : State) (b : Nat) (ref : Int) (lap : BarLap) (ahead : Bool) :
    s.camPlace b ref lap ahead =
      let coord (k : Nat) : Int := ref + (s.profile b).zeroOffset + k * s.machine.pitch
      cam s.machine s.tracker.angle (coord lap.front) (coord lap.back)
        (coord (match s.lists.successor.bind (·.lap b) with
          | some next => if ahead then next.front else lap.back
          | none => lap.back)) := by
  unfold State.camPlace State.nextFront
  rfl

theorem State.alignTarget_eq {s : State} {b : Nat} {ref : Int} {lap : BarLap} (href : (s.channel b).refPoint = some ref)
    (hlap : s.lists.current.bind (·.lap b) = some lap) :
    s.alignTarget b = s.camPlace b ref lap (s.machine.ulStart ≤ s.tracker.angle) := by
  simp [State.alignTarget, State.camSetpoint, href, hlap, State.alignNext_eq, State.camPlace]

/-! ### The start of an alignment (09, R161; 07, R134) -/

/-- A holding channel of an assigned bar is asked to align from where it stands. -/
theorem State.alignChannel_spec {s : State} {b : Nat} {c : Channel} (ha : s.assigned b = true) (hc : c.state.holding = true) :
    let k := s.alignChannel b c
    k.setpoint = c.setpoint ∧ k.referenced = c.referenced ∧ k.aligned = false ∧
    k.move = some (timedMove (s.profile b) c.setpoint (s.alignTarget b)) ∧
    if c.state = .idle then k.state = .aligning
    else k.state = .energizing ∧ k.pendingMove = some .alignment ∧ k.energizeTimer = some 0 := by
  rcases ChannelState.holding_iff.mp hc with h | h <;> simp [State.alignChannel, ha, h, settled]

/-! ### Entry into RUN (09, R162) -/

/-- The part with its run state RUN, its successor bound above ul_start and its channels following. -/
def State.following (s : State) : State := (s.enter .run).bindOnRun.startFollowing

/-- The binding that stands on entry into RUN (05, R81). -/
def State.boundOnRun (s : State) : Bool :=
  s.lists.bound || (decide (s.machine.ulStart ≤ s.tracker.angle) && s.lists.successor.isSome)

theorem State.bindOnRun_lists (s : State) : s.bindOnRun.lists = { s.lists with bound := s.boundOnRun } := by
  unfold State.bindOnRun
  split
  next h =>
    have hbound : s.boundOnRun = true := by rw [State.boundOnRun, h, Bool.or_true]
    rw [hbound]
    rfl
  next h =>
    have hbound : s.boundOnRun = s.lists.bound := by
      rw [State.boundOnRun, Bool.eq_false_iff.mpr h, Bool.or_false]
    rw [hbound]

/-- The part as it enters RUN, before the notice and the stopped check. -/
def State.ranUp (s : State) : State :=
  let p := planOf s.machine s.lists
  { s.following with
    planner := p, permitLine := { s.permitLine with due := true }
    run := { s.run with
      state := .run, requested := none, waiting := false, changing := false, published := p.permit, peak := p.permit } }

/-- In RUN a recomputation publishes the computed permit (R154). -/
theorem State.replan_permitDue_of_run {s : State} (h : s.run.state = .run) (hw : s.run.waiting = false) :
    let p := planOf s.machine s.lists
    (s.replan.permitDue.updRun fun r => { r with peak := s.replan.permitDue.run.published }) = { s with
      planner := p, permitLine := { s.permitLine with due := true }
      run := { s.run with published := p.permit, peak := p.permit } } := by
  intro p
  have hpermit : ({ s with planner := p } : State).permitToPublish = p.permit := by simp [State.permitToPublish, h, hw]
  unfold State.replan State.publish
  rw [hpermit]
  split
  next hsame =>
    have hrun : ({ s.run with published := p.permit, peak := p.permit } : RunControl) = { s.run with peak := p.permit } := by
      rw [hsame]
    rw [hrun, hsame]
    rfl
  next => rfl

theorem State.enterRun_eq (s : State) :
    s.enterRun = (s.ranUp.notifyReached s.run.state s.faultedSet).stoppedCheck := by
  have hplan : planOf s.following.machine s.following.lists = planOf s.machine s.lists := by
    have hlists : s.following.lists = { s.lists with bound := s.boundOnRun } := (s.enter .run).bindOnRun_lists
    have hmachine : s.following.machine = s.machine := by simp [State.following, State.enter]
    rw [hlists, hmachine]
    rfl
  have hrun : s.following.run = (s.enter .run).run := by simp [State.following]
  have hline : s.following.permitLine = s.permitLine := by simp [State.following, State.enter]
  have hruns := State.replan_permitDue_of_run (s := s.following) (by rw [hrun]; rfl) (by rw [hrun]; rfl)
  have hranUp : s.ranUp = (s.following.replan.permitDue.updRun fun r =>
      { r with peak := s.following.replan.permitDue.run.published }) := by
    rw [hruns, hplan, hrun, hline]
    rfl
  rw [hranUp]
  rfl

/-- The stopped check leaves the records and the binding. -/
theorem State.stoppedCheck_lists (s : State) :
    s.stoppedCheck.lists.current = s.lists.current ∧ s.stoppedCheck.lists.after = s.lists.after ∧
    s.stoppedCheck.lists.history = s.lists.history ∧ s.stoppedCheck.lists.bound = s.lists.bound := by
  unfold State.stoppedCheck State.reportRunEnd State.reportStarved
  split
  · split
    · split <;> exact ⟨rfl, rfl, rfl, rfl⟩
    · split <;> exact ⟨rfl, rfl, rfl, rfl⟩
  · exact ⟨rfl, rfl, rfl, rfl⟩

theorem State.channel_following {s : State} {b : Nat} (hb : barExists b = true) :
    s.following.channel b =
      let c := s.channel b
      (s.enter .run).bindOnRun.followed b (if c.state = .aligning then { settled c with state := .following } else c) := by
  have hstarted : ((s.enter .run).bindOnRun.mapChannels fun _ c =>
      if c.state = .aligning then { settled c with state := .following } else c).channel b =
        if (s.channel b).state = .aligning then { settled (s.channel b) with state := .following } else s.channel b := by
    refine (State.channel_mapChannels_of_initial hb rfl).trans ?_
    rw [State.channel_of_channels (t := (s.enter .run).bindOnRun) (s := s) (by simp [State.enter])]
  dsimp only
  rw [← hstarted]
  exact State.channel_follow hb

/-- A channel that does not follow is left by the cam. -/
theorem State.followed_of_ne {s : State} {b : Nat} {c : Channel} (h : c.state ≠ .following) : s.followed b c = c := by
  simp [State.followed, h]

/-- The cam changes the setpoint and the last target alone. -/
theorem State.followed_keeps (s : State) (b : Nat) (c : Channel) :
    (s.followed b c).state = c.state ∧ (s.followed b c).referenced = c.referenced := by
  unfold State.followed
  split
  · split <;> exact ⟨rfl, rfl⟩
  · exact ⟨rfl, rfl⟩

/-- An aligned channel follows, at its cam place while the lists are in step (07, R135). -/
theorem State.channel_following_of_aligning {s : State} {b : Nat} (hb : barExists b = true)
    (ha : (s.channel b).state = .aligning) :
    (s.following.channel b).state = .following ∧ (s.following.channel b).referenced = (s.channel b).referenced ∧
    ∀ ref lap, (s.channel b).refPoint = some ref → s.lists.current.bind (·.lap b) = some lap → s.lists.inStep = true →
      (s.following.channel b).setpoint = s.camPlace b ref lap s.boundOnRun := by
  have hchannel := State.channel_following (s := s) hb
  dsimp only at hchannel
  rw [if_pos ha] at hchannel
  rw [hchannel]
  obtain ⟨hstate, href⟩ := (s.enter .run).bindOnRun.followed_keeps b { settled (s.channel b) with state := .following }
  refine ⟨hstate, href, fun ref lap href hlap hstep => ?_⟩
  obtain ⟨c, hc, hcl⟩ := Option.bind_eq_some_iff.mp hlap
  have hlists : (s.enter .run).bindOnRun.lists = { s.lists with bound := s.boundOnRun } := (s.enter .run).bindOnRun_lists
  have hplace := State.followed_setpoint (s := (s.enter .run).bindOnRun) (b := b)
    (ch := { settled (s.channel b) with state := .following }) rfl href (by rw [hlists]; exact hstep)
    (by rw [hlists]; exact hc) hcl
  have hmachine : (s.enter .run).bindOnRun.machine = s.machine := by simp [State.enter]
  have htracker : (s.enter .run).bindOnRun.tracker = s.tracker := by simp [State.enter]
  have hprofile : (s.enter .run).bindOnRun.profile b = s.profile b := by simp [State.profile, State.profileNumber, State.enter]
  have hnext : (s.enter .run).bindOnRun.nextFront b lap (s.enter .run).bindOnRun.lists.bound =
      s.nextFront b lap s.boundOnRun := by
    unfold State.nextFront
    rw [hlists]
    rfl
  dsimp only at hplace
  rw [hmachine, htracker, hprofile, State.boundNext_eq, hnext] at hplace
  exact hplace

/-! ### The notices of an entry into RUN (09, R170; 05, R82) -/

/-- Where every assigned channel aligns, none is FAULTED. -/
theorem State.faultedSet_of_aligning {s : State} (h : ∀ b ∈ s.assignedBars, (s.channel b).state = .aligning) :
    s.faultedSet = 0 := by
  refine BitVec.eq_of_getLsbD_eq fun i hi => ?_
  have hb : barExists (i + 1) = true := by simp [barExists]; omega
  have hnone : (s.assigned (i + 1) && (s.channel (i + 1)).state == .faulted) = false := by
    cases ha : s.assigned (i + 1) with
    | false => rfl
    | true => simp [h (i + 1) (State.mem_assignedBars_iff.mpr ⟨hb, ha⟩)]
  have hbit : inSet s.faultedSet (i + 1) = false := (inSet_barSet _ hb).trans hnone
  exact hbit.trans BitVec.getLsbD_zero.symm

/-- The part as it enters RUN with every assigned bar aligned, after its notice. -/
def State.ranUpTold (s : State) : State :=
  s.ranUp.updLink fun l => l.offer ⟨.stateReached 0, 0x02, 0x01, s.currentTag, s.tracker.angle⟩

theorem State.ranUp_spec (s : State) :
    s.ranUp.tracker = s.tracker ∧ s.ranUp.machine = s.machine ∧ s.ranUp.player = s.player ∧ s.ranUp.link = s.link ∧
    s.ranUp.lists = { s.lists with bound := s.boundOnRun } := by
  have hlists : s.following.lists = { s.lists with bound := s.boundOnRun } := (s.enter .run).bindOnRun_lists
  have htracker : s.following.tracker = s.tracker := by simp [State.following, State.enter]
  have hmachine : s.following.machine = s.machine := by simp [State.following, State.enter]
  have hplayer : s.following.player = s.player := by simp [State.following, State.enter]
  have hlink : s.following.link = s.link := by simp [State.following, State.enter]
  exact ⟨htracker, hmachine, hplayer, hlink, hlists⟩

theorem State.enterRun_of_aligned {s : State} (hs : s.run.state = .hold)
    (h : ∀ b ∈ s.assignedBars, (s.channel b).state = .aligning) : s.enterRun = s.ranUpTold.stoppedCheck := by
  obtain ⟨htracker, -, -, -, hlists⟩ := s.ranUp_spec
  have htag : s.ranUp.currentTag = s.currentTag := by rw [State.currentTag, hlists]; rfl
  have htold : s.ranUp.notifyReached .hold 0 = s.ranUpTold := by
    rw [State.ranUpTold, ← htag, ← htracker]
    rfl
  rw [State.enterRun_eq, hs, State.faultedSet_of_aligning h, htold]

/-- With a successor the stopped check has nothing to tell. -/
theorem State.ranUpTold_supplied {s : State} (h : s.lists.successor.isSome = true) :
    s.ranUpTold.stoppedCheck.link =
      s.link.offer ⟨.stateReached 0, 0x02, 0x01, s.currentTag, s.tracker.angle⟩ := by
  obtain ⟨-, -, -, hlink, hlists⟩ := s.ranUp_spec
  have hsuccessor : s.ranUpTold.lists.successor.isSome = true := by
    rw [State.ranUpTold, State.updLink_lists, hlists]
    exact h
  rw [State.stoppedCheck_of_successor hsuccessor, ← hlink]
  rfl

/-- Without a successor a machine that stands below ul_start starves (05, R82). -/
theorem State.ranUpTold_starved {s : State} {c : CourseRecord} (hnext : s.lists.successor = none)
    (hcurrent : s.lists.current = some c) (hend : c.endMark = false) (hstep : s.lists.inStep = true)
    (hstopped : s.tracker.stopped = true) (hsync : s.tracker.sync = .locked) (hangle : s.tracker.angle < s.machine.ulStart)
    (hmark : s.lists.starvedMark = false) :
    s.ranUpTold.stoppedCheck.link =
      (s.link.offer ⟨.stateReached 0, 0x02, 0x01, s.currentTag, s.tracker.angle⟩).offer
        ⟨.starved s.lists.source s.lists.history.length s.player.feedStopped, 0, 0, s.currentTag, s.tracker.angle⟩ := by
  obtain ⟨htracker, hmachine, hplayer, hlink, hlists⟩ := s.ranUp_spec
  have hlists' : s.ranUpTold.lists = { s.lists with bound := s.boundOnRun } := hlists
  have hstarves : s.ranUpTold.stoppedCheck = s.ranUpTold.reportStarved :=
    State.stoppedCheck_starves (s := s.ranUpTold) (c := c) rfl (by rw [State.ranUpTold, State.updLink_tracker, htracker]; exact hstopped)
      (by rw [State.ranUpTold, State.updLink_tracker, htracker]; exact hsync)
      (by rw [State.ranUpTold, State.updLink_tracker, State.updLink_machine, htracker, hmachine]; exact hangle)
      (by rw [hlists']; exact hstep) (by rw [hlists']; exact hcurrent) (by rw [hlists']; exact hnext) hend
  have hunmarked : ¬s.ranUpTold.lists.starvedMark = true := by
    rw [hlists']
    exact Bool.eq_false_iff.mp hmark
  rw [hstarves, State.reportStarved, if_neg hunmarked]
  simp [State.ranUpTold, State.currentTag, hlists, hlink, htracker, hplayer]

/-- What the stopped check and the notice leave of the machine that is let run. -/
theorem State.ranUpTold_checked (s : State) :
    let t := s.ranUpTold.stoppedCheck
    t.planner = planOf s.machine s.lists ∧ t.run = s.ranUp.run ∧ t.power = s.power ∧
    t.permitLine = { s.permitLine with due := true } ∧ t.tracker = s.tracker ∧ t.machine = s.machine ∧ t.store = s.store ∧
    t.player = s.player ∧ t.channels = s.following.channels := by
  simp [State.ranUpTold, State.ranUp, State.following, State.enter]

theorem State.ranUpTold_checked_lists (s : State) :
    let l := s.ranUpTold.stoppedCheck.lists
    l.current = s.lists.current ∧ l.after = s.lists.after ∧ l.history = s.lists.history ∧ l.bound = s.boundOnRun := by
  obtain ⟨-, -, -, -, hlists⟩ := s.ranUp_spec
  have hlists' : s.ranUpTold.lists = { s.lists with bound := s.boundOnRun } := hlists
  have hchecked := s.ranUpTold.stoppedCheck_lists
  rw [hlists'] at hchecked
  exact hchecked

/-! ### The statement -/

/-- Settles O49: the alignment by its channels, and the entry into RUN by its parts. -/
theorem alignmentLeadsIntoRun : Obligations.AlignmentLeadsIntoRun := by
  intro s hheld hsized hs hr coord place
  have hplace (b : Nat) (ref : Int) (lap : BarLap) (ahead : Bool) : s.camPlace b ref lap ahead = place b ref lap ahead :=
    s.camPlace_eq b ref lap ahead
  have htakes {d : DueStep} (hd : s.dueStep = some d) : s.ownStep d = s.perform d := State.ownStep_of_due hheld hd
  refine ⟨fun hw hc hsync hstopped hholds hcurrent hsuccessor hsearch => ?_, fun hc haligned => ?_⟩
  · have hfit : s.fitForRun = true := s.fitForRun_iff.mpr
      ⟨hsync, hstopped, hholds, hcurrent, (Nat.lt_or_ge s.tracker.angle s.machine.ulStart).imp_right hsuccessor, hsearch⟩
    have hdue := (State.dueStep_waiting hc hw hr hs).trans (if_pos hfit)
    refine ⟨s.startAlignment, congrArg Host.Outcome.next (htakes hdue), rfl, by cases s; rfl, fun b hb => ?_⟩
    rw [State.channel_startAlignment hb]
    refine ⟨fun ha => if_pos (by simp [ha]), fun ref lap ha href hlap => ?_⟩
    obtain ⟨hholding, hreferenced⟩ := hholds b (State.mem_assignedBars_iff.mpr ⟨hb, ha⟩)
    obtain ⟨hstart, hkept, hunaligned, hmove, hstate⟩ := State.alignChannel_spec ha hholding
    rw [State.alignTarget_eq href hlap, hplace] at hmove
    exact ⟨hstart, hkept.trans hreferenced, hunaligned, hmove, hstate⟩
  · have haligning (b : Nat) (hb : b ∈ s.assignedBars) : (s.channel b).state = .aligning := (haligned b hb).1
    have hall : s.allAligned = true := by simpa [State.allAligned] using haligned
    have hdue := (State.dueStep_aligning hc hr hs).trans (if_pos hall)
    have hexec : exec .enterRun s = .next s.ranUpTold.stoppedCheck :=
      congrArg Host.Outcome.next ((htakes hdue).trans (State.enterRun_of_aligned hs haligning))
    obtain ⟨hplanner, hrun, hpower, hline, htracker, hmachine, hstore, hplayer, hchannels⟩ := s.ranUpTold_checked
    obtain ⟨hcurrent, hafter, hhistory, hbound⟩ := s.ranUpTold_checked_lists
    refine ⟨s.ranUpTold.stoppedCheck, hexec, hplanner, hrun.trans ?_, ?_, hline, hcurrent, hafter, hhistory, hbound, htracker,
      hmachine, hstore, hplayer, fun b hb => ?_, State.ranUpTold_supplied, ?_⟩
    · rw [hplanner]
      rfl
    · have hfree : s.ranUpTold.stoppedCheck.isHeld = false := by rw [State.isHeld, hpower]; exact hheld
      rw [State.stopActive_of_free hfree, hrun]
      rfl
    · rw [State.channel_of_channels hchannels b, hbound]
      refine ⟨fun habsent => ?_, fun ha => ?_⟩
      · rw [State.channel_following hb]
        dsimp only
        rw [if_neg (by rw [habsent]; nofun), State.followed_of_ne (by rw [habsent]; nofun)]
      · obtain ⟨hstate, href, hsetpoint⟩ :=
          State.channel_following_of_aligning hb (haligning b (State.mem_assignedBars_iff.mpr ⟨hb, ha⟩))
        exact ⟨hstate, href, fun ref lap hpoint hlap hstep =>
          (hsetpoint ref lap hpoint hlap hstep).trans (hplace b ref lap s.boundOnRun)⟩
    · exact fun c hnext hcur hend hstep hstopped hsync hangle hmark =>
        State.ranUpTold_starved hnext hcur hend hstep hstopped hsync hangle hmark


end Sys2Proof.Machine
end

section
/-! PROOF. The receiver of the control link (10, R175 to R177): a byte in each phase, said once; what BYTE_RECEIVED and FRAME_GAP_TIMEOUT
come to; and the bytes of a whole link frame, by an induction along the frame. -/

namespace Sys2Proof.Machine

/-! ### A byte at the receiver (10, R175, R176) -/

/-- The port with its receiver as given. -/
def State.withReceiver (s : State) (rx : Receiver) : State := s.updLink fun l => { l with rx := rx }

/-- In HUNT the gap timer does not run (10, R176). -/
theorem State.gapTooLong_of_hunt {s : State} (h : s.link.rx.phase = .hunt) : s.gapTooLong = false := by
  simp [State.gapTooLong, h]

theorem State.gapTooLong_iff {s : State} : s.gapTooLong = true ↔
    s.link.rx.phase ≠ .hunt ∧ 1000 * s.link.rate + 10 < s.link.rate * (s.now - s.link.rx.lastAt) := by
  rw [State.gapTooLong, Bool.and_eq_true, decide_eq_true_iff, bne_iff_ne, Config.gapLimit, Nat.mul_comm 1000]

theorem State.gapTooLong_of_le {s : State} (h : s.link.rate * (s.now - s.link.rx.lastAt) ≤ 1000 * s.link.rate + 10) :
    s.gapTooLong = false :=
  Bool.eq_false_iff.mpr fun hlong => Nat.not_lt.mpr h (State.gapTooLong_iff.mp hlong).2

section

variable {s : State} (hp : s.power = .running)

include hp

theorem State.receiveByte_of_low (v : Byte) : s.receiveByte v false = s.hunt := by
  cases hlong : s.gapTooLong <;> simp [State.receiveByte, State.isRunning, hp, hlong, State.hunt, State.updLink, Receiver.hunting]

theorem State.receiveByte_of_gap (hlong : s.gapTooLong = true) (v : Byte) : s.receiveByte v true = s.hunt.takeByte v := by
  simp [State.receiveByte, State.isRunning, hp, hlong]

theorem State.receiveByte_of_data (hgap : s.gapTooLong = false) (v : Byte) : s.receiveByte v true = s.takeByte v := by
  simp [State.receiveByte, State.isRunning, hp, hgap]

end

/-- The length field of a frame is its first two bytes. -/
theorem frameLength_cons_cons (a b : Byte) (rest : List Byte) : frameLength (a :: b :: rest) = 256 * a.toNat + b.toNat := by
  simp [frameLength, beNat]

section

variable {s : State}

theorem State.takeByte_of_start (h : s.link.rx.phase = .hunt) : s.takeByte 0xA5 = s.withReceiver ⟨.length, [], s.now⟩ := by
  rw [State.takeByte, h]; rfl

theorem State.takeByte_of_noStart (h : s.link.rx.phase = .hunt) {v : Byte} (hv : v ≠ 0xA5) : s.takeByte v = s := by
  rw [State.takeByte, h]; exact if_neg hv

theorem State.takeByte_of_length_first (h : s.link.rx.phase = .length) (hb : s.link.rx.bytes = []) (v : Byte) :
    s.takeByte v = s.withReceiver ⟨.length, [v], s.now⟩ := by
  simp [State.takeByte, h, hb, Receiver.take, State.withReceiver, State.updLink]

theorem State.takeByte_of_length_second {a : Byte} (h : s.link.rx.phase = .length) (hb : s.link.rx.bytes = [a]) (v : Byte) :
    s.takeByte v = if within 2 546 (frameLength [a, v]) then s.withReceiver ⟨.body, [a, v], s.now⟩ else s.hunt := by
  simp [State.takeByte, h, hb, Receiver.take, State.withReceiver, State.updLink]

theorem State.takeByte_of_body (h : s.link.rx.phase = .body) (v : Byte) :
    let bytes := s.link.rx.bytes ++ [v]
    s.takeByte v = s.withReceiver ⟨if bytes.length < 2 + frameLength bytes then .body else .check, bytes, s.now⟩ := by
  intro bytes
  rw [State.takeByte, h]
  dsimp only
  split <;> rfl

theorem State.takeByte_of_check (h : s.link.rx.phase = .check) (v : Byte) :
    let bytes := s.link.rx.bytes ++ [v]
    s.takeByte v = if bytes.length < 4 + frameLength bytes then s.withReceiver ⟨.check, bytes, s.now⟩
      else s.completeFrame bytes := by
  rw [State.takeByte, h]; rfl

end

/-! ### The frame at its end (10, R177) -/

/-- A frame whose check bytes are not the CRC of those before, or whose length is too small for tag and kind, is discarded. -/
theorem frameRequest_of_bad {covered check : List Byte} (hcheck : check.length = 2)
    (hbad : check ≠ crcBytes covered ∨ frameLength (covered ++ check) < 5) : frameRequest (covered ++ check) = none := by
  rw [frameRequest, List.length_append, hcheck, Nat.add_sub_cancel, List.take_left, List.drop_left]
  exact if_neg (by simpa [imp_iff_not_or] using hbad)

/-- Any other frame is the request of its tag, kind and payload. -/
theorem frameRequest_of_good {covered : List Byte} (hsize : 5 ≤ frameLength (covered ++ crcBytes covered)) :
    frameRequest (covered ++ crcBytes covered) =
      some ⟨BitVec.ofNat 32 (numAt covered 2 4), parseRequest (numAt covered 6 1) (covered.drop 7)⟩ := by
  have hcheck : (crcBytes covered).length = 2 := beBytes_length 2 _
  rw [frameRequest, List.length_append, hcheck, Nat.add_sub_cancel, List.take_left, List.drop_left]
  exact if_pos (by simpa using hsize)

/-- One byte of a payload as a number. -/
theorem numAt_one {p : List Byte} {k : Nat} (h : k < p.length) : numAt p k 1 = (p.getD k 0).toNat := by
  have hfirst : (p.drop k).take 1 = [p[k]] := by rw [List.drop_eq_getElem_cons h]; rfl
  rw [numAt, hfirst, List.getD_eq_getElem _ _ h]
  simp [beNat]

theorem State.completeFrame_of_none {s : State} {bytes : List Byte} (h : frameRequest bytes = none) :
    s.completeFrame bytes = s.hunt := by
  rw [State.completeFrame, h]

theorem State.completeFrame_of_some {s : State} {bytes : List Byte} {w : Waiting} (h : frameRequest bytes = some w) :
    s.completeFrame bytes = s.hunt.offerRequest w.tag w.request := by
  rw [State.completeFrame, h]

/-! ### The commands (10, R175 to R177) -/

theorem exec_byteReceived {s : State} (hq : s.Quiet) (v : Byte) (high : Bool) (dt : Nat) :
    exec (.byteReceived v high dt) s = .next ((s.elapse dt).receiveByte v high) :=
  congrArg Host.Outcome.next (State.after_of_quiet hq dt _)

theorem exec_byteReceived_of_data {s : State} (hq : s.Quiet) {dt : Nat} (hgap : (s.elapse dt).gapTooLong = false) (v : Byte) :
    exec (.byteReceived v true dt) s = .next ((s.elapse dt).takeByte v) := by
  rw [exec_byteReceived hq, State.receiveByte_of_data (by exact hq.1) hgap]

theorem exec_frameGapTimeout {s : State} (hq : s.Quiet) : exec .frameGapTimeout s = .next s.gapTimeout :=
  congrArg Host.Outcome.next (State.event_of_quiet hq _)

/-- Settles O12: each phase by its rule, with no long gap before the byte, and the end of a frame by its check bytes. -/
theorem receiverTakesBytesByPhase : Obligations.ReceiverTakesBytesByPhase := by
  refine ⟨fun v dt s hq => ?_, fun v dt s hq => ?_, fun s hq => ?_⟩
  · intro t put
    have hp : t.power = .running := hq.1
    refine ⟨fun hphase hv => ?_, fun hphase hv => ?_, fun a hphase hbytes hgap => ?_, ?_, fun hphase hlong => ?_⟩
    · rw [exec_byteReceived_of_data hq (State.gapTooLong_of_hunt hphase), hv, State.takeByte_of_start (s := t) hphase]
      rfl
    · rw [exec_byteReceived_of_data hq (State.gapTooLong_of_hunt hphase), State.takeByte_of_noStart (s := t) hphase hv]
    · rw [exec_byteReceived_of_data hq hgap, State.takeByte_of_length_second (s := s.elapse dt) hphase hbytes,
        frameLength_cons_cons]
      simp only [within, Bool.and_eq_true, decide_eq_true_eq]
      rfl
    · rw [exec_byteReceived hq, State.receiveByte_of_low hp]
      rfl
    · rw [exec_byteReceived hq, State.receiveByte_of_gap hp (State.gapTooLong_iff.mpr ⟨hphase, hlong⟩)]
      split
      next hv => rw [hv, State.takeByte_of_start (s := t.hunt) rfl]; rfl
      next hv => rw [State.takeByte_of_noStart (s := t.hunt) rfl hv]; rfl
  · intro t put hunting all hgap
    have hexec : exec (.byteReceived v true dt) s = .next (t.takeByte v) :=
      exec_byteReceived_of_data hq (State.gapTooLong_of_le hgap) v
    refine ⟨fun hphase hbytes => ?_, fun a b rest hbytes => ?_⟩
    · rw [hexec, State.takeByte_of_length_first (s := t) hphase hbytes]
      rfl
    · intro size covered
      have hsize : frameLength all = size := by
        rw [show all = a :: b :: (rest ++ [v]) from congrArg (· ++ [v]) hbytes, frameLength_cons_cons]
      refine ⟨fun hphase => ?_, fun hphase hmore => ?_, fun hphase hwhole => ?_⟩
      · rw [hexec, State.takeByte_of_body (s := t) hphase]
        change Host.Outcome.next (put ⟨if all.length < 2 + frameLength all then .body else .check, all, t.now⟩) = _
        rw [hsize]
      · rw [hexec, State.takeByte_of_check (s := t) hphase]
        change Host.Outcome.next (if all.length < 4 + frameLength all then put ⟨.check, all, t.now⟩ else _) = _
        rw [hsize, if_pos hmore]
      · have hends : t.takeByte v = t.completeFrame all := by
          rw [State.takeByte_of_check (s := t) hphase]
          exact if_neg (Nat.not_lt.mpr (hwhole.trans (congrArg (4 + ·) hsize.symm)).ge)
        have hcut : covered ++ all.drop (2 + size) = all := List.take_append_drop _ _
        have hcheck : (all.drop (2 + size)).length = 2 := by rw [List.length_drop]; omega
        refine ⟨fun hbad => ?_, fun hcrc hlarge => ?_⟩
        · have hnone := frameRequest_of_bad (covered := covered) hcheck (by rwa [hcut, hsize])
          rw [hcut] at hnone
          rw [hexec, hends, State.completeFrame_of_none hnone]
          rfl
        · have hsome := frameRequest_of_good (covered := covered) (by rw [← hcrc, hcut, hsize]; exact hlarge)
          rw [← hcrc, hcut, numAt_one (by rw [List.length_take]; omega)] at hsome
          rw [hexec, hends, State.completeFrame_of_some hsome]
          rfl
  · rw [exec_frameGapTimeout hq, State.gapTimeout]
    split <;> rfl

end Sys2Proof.Machine
end

section
/-! PROOF. The bytes of a whole link frame at the receiver (10, R176, R177): by an induction along the frame, each byte but the last
leaves the receiver with the part of the frame that has come. -/

namespace Sys2Proof.Machine

/-- The phase in which the receiver stands when these bytes of a frame have come after its start byte (10, R176). -/
def framePhase (bytes : List Byte) : RxPhase :=
  if bytes.length < 2 then .length else if bytes.length < 2 + frameLength bytes then .body else .check

/-- The receiver has just taken the last of these bytes of a frame. -/
def State.assembling (s : State) (bytes : List Byte) : State := s.withReceiver ⟨framePhase bytes, bytes, s.now⟩

/-- The bytes after a start byte are a frame by their length field: the field, as many bytes as it says, and two check bytes. -/
def WholeFrame (bytes : List Byte) : Prop := within 2 546 (frameLength bytes) = true ∧ bytes.length = 4 + frameLength bytes

/-- A byte with a high stop bit ends, `x.2` us after the one before. -/
def State.receive (s : State) (x : Byte × Nat) : State := (s.elapse x.2).receiveByte x.1 true

theorem State.elapse_elapse (s : State) (a b : Nat) : (s.elapse a).elapse b = s.elapse (a + b) := by
  simp [State.elapse, Nat.add_assoc]

/-- Once its two bytes have come the length field stays. -/
theorem frameLength_append {xs : List Byte} (h : 2 ≤ xs.length) (ys : List Byte) : frameLength (xs ++ ys) = frameLength xs := by
  rw [frameLength, frameLength, List.take_append_of_le_length h]

theorem framePhase_of_field {bytes : List Byte} (h : 2 ≤ bytes.length) :
    framePhase bytes = if bytes.length < 2 + frameLength bytes then .body else .check := if_neg (Nat.not_lt.mpr h)

/-! ### One byte of a frame -/

section

variable {s : State} {bytes : List Byte} {v : Byte} (hphase : s.link.rx.phase = framePhase bytes)
  (hbytes : s.link.rx.bytes = bytes)

include hphase hbytes

/-- Behind the length field a byte that others of its frame follow joins those before it. -/
theorem State.takeByte_of_inner (hfield : 2 ≤ bytes.length) (hmore : bytes.length + 1 < 4 + frameLength bytes) :
    s.takeByte v = s.assembling (bytes ++ [v]) := by
  have hkept : frameLength (bytes ++ [v]) = frameLength bytes := frameLength_append hfield [v]
  have hone : (bytes ++ [v]).length = bytes.length + 1 := by simp
  have hlong : 2 ≤ (bytes ++ [v]).length := by omega
  rw [framePhase_of_field hfield] at hphase
  rw [State.assembling, framePhase_of_field hlong]
  split at hphase
  next => rw [State.takeByte_of_body hphase, hbytes]
  next hbody => rw [State.takeByte_of_check hphase, hbytes, if_pos (by omega), if_neg (by omega)]

/-- A byte that others of its frame follow joins those before it. -/
theorem State.takeByte_of_part {rest : List Byte} (hwhole : WholeFrame (bytes ++ v :: rest)) (hrest : rest ≠ []) :
    s.takeByte v = s.assembling (bytes ++ [v]) := by
  obtain ⟨hsize, hlength⟩ := hwhole
  match bytes with
  | [] => exact State.takeByte_of_length_first hphase hbytes v
  | [a] =>
    have hfield : frameLength ([a] ++ v :: rest) = frameLength [a, v] := frameLength_append (xs := [a, v]) (Nat.le_refl 2) rest
    rw [hfield] at hsize
    have htwo : 2 ≤ frameLength [a, v] := of_decide_eq_true (Bool.and_eq_true_iff.mp hsize).1
    have hbody : framePhase [a, v] = .body :=
      (framePhase_of_field (bytes := [a, v]) (Nat.le_refl 2)).trans (if_pos (by simp only [List.length_cons, List.length_nil]; omega))
    rw [State.takeByte_of_length_second hphase hbytes, if_pos hsize, ← hbody]
    rfl
  | a :: b :: more =>
    refine State.takeByte_of_inner hphase hbytes (by simp) ?_
    rw [frameLength_append (by simp), List.length_append, List.length_cons (a := v)] at hlength
    have hmore : 0 < rest.length := List.length_pos_iff.mpr hrest
    omega

/-- The last byte of a frame completes it. -/
theorem State.takeByte_of_last (hwhole : WholeFrame (bytes ++ [v])) : s.takeByte v = s.completeFrame (bytes ++ [v]) := by
  obtain ⟨-, hlength⟩ := hwhole
  rw [List.length_append, List.length_singleton] at hlength
  have hfield : frameLength (bytes ++ [v]) = frameLength bytes := frameLength_append (by omega) [v]
  have hcheck : framePhase bytes = .check := (framePhase_of_field (by omega)).trans (if_neg (by omega))
  rw [State.takeByte_of_check (hphase.trans hcheck), hbytes, if_neg (by rw [List.length_append, List.length_singleton]; omega)]

end

/-! ### The bytes of a frame, one by one -/

section

variable {s : State} (hp : s.power = .running)

include hp

/-- A byte that ends at most 1 ms after the one before comes with no long gap. -/
theorem State.receive_assembling {dt : Nat} (hdt : dt ≤ 1000) (bytes : List Byte) (v : Byte) :
    (s.assembling bytes).receive (v, dt) = ((s.assembling bytes).elapse dt).takeByte v := by
  refine State.receiveByte_of_data (by exact hp) (State.gapTooLong_of_le ?_) v
  have hgap : s.link.rate * dt ≤ 1000 * s.link.rate := Nat.mul_comm 1000 _ ▸ Nat.mul_le_mul_left _ hdt
  have htime : s.now + dt - s.now = dt := Nat.add_sub_cancel_left _ _
  change s.link.rate * (s.now + dt - s.now) ≤ 1000 * s.link.rate + 10
  rw [htime]
  omega

end

/-- The bytes of a frame but its last leave the receiver with the part that has come. -/
theorem State.receive_part {v : Byte} (ws : List Byte) : ∀ {s : State} {bytes : List Byte} {dts : List Nat}, s.power = .running →
    WholeFrame (bytes ++ ws ++ [v]) → dts.length = ws.length → (∀ dt ∈ dts, dt ≤ 1000) →
    (ws.zip dts).foldl State.receive (s.assembling bytes) = (s.elapse dts.sum).assembling (bytes ++ ws) := by
  induction ws with
  | nil =>
    intro s bytes dts _ _ hdts _
    rw [List.length_eq_zero_iff.mp hdts, List.append_nil]
    rfl
  | cons w ws ih =>
    intro s bytes dts hp hwhole hdts hgaps
    obtain ⟨dt, dts, rfl⟩ : ∃ dt rest, dts = dt :: rest := List.exists_cons_of_length_eq_add_one hdts
    have hjoins : ((s.assembling bytes).elapse dt).takeByte w = (s.elapse dt).assembling (bytes ++ [w]) :=
      State.takeByte_of_part (s := (s.assembling bytes).elapse dt) (rest := ws ++ [v]) rfl rfl (by simpa using hwhole) (by simp)
    calc ((w :: ws).zip (dt :: dts)).foldl State.receive (s.assembling bytes)
        = (ws.zip dts).foldl State.receive ((s.elapse dt).assembling (bytes ++ [w])) := by
          rw [List.zip_cons_cons, List.foldl_cons, State.receive_assembling hp (hgaps dt (by simp)), hjoins]
      _ = ((s.elapse dt).elapse dts.sum).assembling (bytes ++ [w] ++ ws) :=
          ih (by exact hp) (by simpa using hwhole) (by simpa using hdts) fun d hd => hgaps d (by simp [hd])
      _ = (s.elapse (dt :: dts).sum).assembling (bytes ++ w :: ws) := by
          rw [State.elapse_elapse, List.sum_cons, List.append_assoc, List.singleton_append]

/-- The bytes of a frame after its start byte, of which the last completes it. -/
theorem State.receive_whole {s : State} (hp : s.power = .running) {ws : List Byte} {v : Byte} (hwhole : WholeFrame (ws ++ [v]))
    {dts : List Nat} {dt : Nat} (hdts : dts.length = ws.length) (hgaps : ∀ d ∈ dts, d ≤ 1000) (hdt : dt ≤ 1000) :
    ((ws ++ [v]).zip (dts ++ [dt])).foldl State.receive (s.assembling []) =
      (((s.elapse dts.sum).assembling ws).elapse dt).completeFrame (ws ++ [v]) := by
  have hpart := State.receive_part (bytes := []) ws hp hwhole hdts hgaps
  rw [List.nil_append] at hpart
  rw [List.zip_append hdts.symm, List.foldl_append, hpart]
  calc ((s.elapse dts.sum).assembling ws).receive (v, dt)
      = (((s.elapse dts.sum).assembling ws).elapse dt).takeByte v := State.receive_assembling (by exact hp) hdt ws v
    _ = _ := State.takeByte_of_last (s := ((s.elapse dts.sum).assembling ws).elapse dt) rfl rfl hwhole

/-- The receiver in HUNT again, `b` us after the byte before the last. -/
theorem State.hunt_assembling (s : State) (ws : List Byte) (a b : Nat) :
    (((s.elapse a).assembling ws).elapse b).hunt =
      (s.elapse (a + b)).withReceiver { s.link.rx with phase := .hunt, bytes := [], lastAt := s.now + a } := by
  rw [← State.elapse_elapse]
  rfl

/-! ### The frame of a request (10, section 10.7) -/

section

variable (tag : Tag) (kind : Nat) (payload : List Byte)

theorem frameBody_length : (frameBody tag kind payload).length = payload.length + 7 := by
  simp [frameBody]; omega

/-- The length field counts tag, kind and payload. -/
theorem frameLength_frameBody (h : payload.length ≤ 541) (check : List Byte) :
    frameLength (frameBody tag kind payload ++ check) = payload.length + 5 := by
  have hfield : (frameBody tag kind payload ++ check).take 2 = beBytes 2 (payload.length + 5) := by
    simp only [frameBody, List.append_assoc]
    exact List.take_left' (beBytes_length 2 _)
  rw [frameLength, hfield, beNat_beBytes]
  omega

theorem wholeFrame_frameBody (h : payload.length ≤ 541) : WholeFrame (frameBody tag kind payload ++
    crcBytes (frameBody tag kind payload)) := by
  have hcheck : (crcBytes (frameBody tag kind payload)).length = 2 := beBytes_length 2 _
  rw [WholeFrame, frameLength_frameBody _ _ _ h, List.length_append, frameBody_length, hcheck]
  exact ⟨by simp [within]; omega, by omega⟩

/-- A link frame is read as the request that its tag, kind and payload spell. -/
theorem frameRequest_linkFrame (hkind : kind < 256) (h : payload.length ≤ 541) :
    frameRequest (frameBody tag kind payload ++ crcBytes (frameBody tag kind payload)) =
      some ⟨tag, parseRequest kind payload⟩ := by
  have htag : numAt (frameBody tag kind payload) 2 4 = tag.toNat := by
    have hbytes : ((frameBody tag kind payload).drop 2).take 4 = tagBytes tag := by
      simp only [frameBody, List.append_assoc]
      rw [List.drop_left' (beBytes_length 2 _), List.take_left' (tagBytes_length tag)]
    rw [numAt, hbytes, tagBytes, beNat_beBytes]
    exact Nat.mod_eq_of_lt tag.isLt
  have hkindByte : numAt (frameBody tag kind payload) 6 1 = kind := by
    have hbytes : ((frameBody tag kind payload).drop 6).take 1 = beBytes 1 kind := by
      rw [frameBody, List.append_assoc, List.drop_left' (by simp), List.take_left' (beBytes_length 1 _)]
    rw [numAt, hbytes, beNat_beBytes]
    exact Nat.mod_eq_of_lt hkind
  have hpayload : (frameBody tag kind payload).drop 7 = payload := List.drop_left' (by simp)
  rw [frameRequest_of_good (by rw [frameLength_frameBody _ _ _ h]; omega), htag, hkindByte, hpayload, BitVec.ofNat_toNat,
    BitVec.setWidth_eq]

end

theorem exists_append_singleton_of_length {α : Type} {l : List α} {n : Nat} (h : l.length = n + 1) :
    ∃ xs x, l = xs ++ [x] ∧ xs.length = n := by
  obtain rfl | ⟨xs, x, rfl⟩ := l.eq_nil_or_concat'
  · cases h
  · exact ⟨xs, x, rfl, by simpa using h⟩

/-- Settles O11: the start byte, then the frame by the induction along its bytes, read back at the last. -/
theorem bytesOfAFrameAreItsRequest : Obligations.BytesOfAFrameAreItsRequest := by
  intro tag kind payload dts s hp hphase hkind hpayload hdts hgaps _
  have hwhole := wholeFrame_frameBody tag kind payload hpayload
  have hrequest := frameRequest_linkFrame tag kind payload hkind hpayload
  have hcount : (frameBody tag kind payload ++ crcBytes (frameBody tag kind payload)).length = payload.length + 8 + 1 := by
    rw [List.length_append, frameBody_length]; exact congrArg (payload.length + 7 + ·) (beBytes_length 2 _)
  rw [show linkFrame tag kind payload = 0xA5 :: (frameBody tag kind payload ++ crcBytes (frameBody tag kind payload)) from rfl]
  obtain ⟨ws, v, hframe, hws⟩ := exists_append_singleton_of_length hcount
  rw [hframe] at hwhole hrequest ⊢
  obtain ⟨first, rest, rfl⟩ := List.exists_cons_of_length_eq_add_one hdts
  obtain ⟨mid, last, rfl, hmid⟩ := exists_append_singleton_of_length (Nat.succ.inj hdts)
  have hstart : s.receive (0xA5, first) = (s.elapse first).assembling [] :=
    (State.receiveByte_of_data (s := s.elapse first) hp (State.gapTooLong_of_hunt hphase) _).trans
      (State.takeByte_of_start hphase)
  have hsum : (first :: (mid ++ [last])).sum = first + mid.sum + last := by simp [Nat.add_assoc]
  have hbefore : (first :: (mid ++ [last])).dropLast.sum = first + mid.sum := by
    rw [← List.cons_append, List.dropLast_concat, List.sum_cons]
  calc ((0xA5 :: (ws ++ [v])).zip (first :: (mid ++ [last]))).foldl State.receive s
      = ((ws ++ [v]).zip (mid ++ [last])).foldl State.receive ((s.elapse first).assembling []) := by
        rw [List.zip_cons_cons, List.foldl_cons, hstart]
    _ = ((((s.elapse first).elapse mid.sum).assembling ws).elapse last).completeFrame (ws ++ [v]) :=
        State.receive_whole (by exact hp) hwhole (hmid.trans hws.symm) (fun d hd => hgaps d (by simp [hd])) (hgaps last (by simp))
    _ = ((((s.elapse first).elapse mid.sum).assembling ws).elapse last).hunt.offerRequest tag (parseRequest kind payload) :=
        State.completeFrame_of_some hrequest
    _ = _ := by
        rw [State.elapse_elapse, State.hunt_assembling, hbefore, hsum]
        rfl

end Sys2Proof.Machine
end

section
/-! PROOF. The receive buffer (10, R177 to R179): where a request frame goes, for each request command, and what REPLY_SENT frees. -/

namespace Sys2Proof.Machine

/-! ### An event of a part that owes a reset at most (log 5) -/

section

variable {s : State} (hd : s.dueStep = none)

include hd

/-- An owed reset waits until its reply has gone out (09, R173). -/
theorem State.ready_of_none (h : s.link.tx.isSome = true ∨ s.link.resetOwed = none) : s.ready = s := by
  rw [State.ready, State.settleRun_of_none hd, State.dueReset]
  obtain htx | ho := h
  · exact if_neg (by rw [Option.isNone_eq_false_iff.mpr htx]; exact Bool.false_ne_true)
  · rw [State.takeOwed, ho, ite_self]

theorem State.goesOn_of_none (h : s.link.tx.isSome = true ∨ s.link.resetOwed = none) (hheld : s.isHeld = false)
    (f : State → State) : s.goesOn f = .next (f s) := by
  rw [State.goesOn, State.event, State.after, if_neg (Bool.eq_false_iff.mp hheld), State.ready_of_none hd h]
  rfl

end

/-! ### A request frame at the port (10, R177, R178) -/

section

variable {s : State}

/-- Before the part takes frames a request frame is dropped (10, R178; log 4). -/
theorem State.request_of_startUp {t : Nat} (hp : s.power = .startUp t) (tag : Tag) (r : Request) : s.request tag r = s := by
  simp [State.request, State.isRunning, hp]

/-- With both places held it is discarded, and LINK_OVERRUN names it. -/
theorem State.request_of_full (hp : s.power = .running) (hb : 2 ≤ s.link.buffer.length) (tag : Tag) (r : Request) :
    s.request tag r = s.hunt.updLink fun l => l.offer ⟨.linkOverrun tag (requestKind r), 0, 0, s.currentTag, s.tracker.angle⟩ := by
  rw [State.request, if_pos (by simp [State.isRunning, hp]), State.offerRequest, if_neg (by exact Nat.not_lt.mpr hb)]
  rfl

/-- While a reply goes out nothing is served. -/
theorem State.serve_of_replying (htx : s.link.tx.isSome = true) : s.serve = s := by
  obtain ⟨r, hr⟩ := Option.isSome_iff_exists.mp htx
  rw [State.serve, hr]

/-- While a reset is owed nothing is served (09, R173). -/
theorem State.serve_of_owed {scope : Scope} (ho : s.link.resetOwed = some scope) : s.serve = s := by
  rw [State.serve, ho]
  split <;> trivial

/-- While a reply goes out it takes a free place behind the one before. -/
theorem State.request_of_replying (hp : s.power = .running) (htx : s.link.tx.isSome = true) (hb : s.link.buffer.length < 2)
    (tag : Tag) (r : Request) :
    s.request tag r = s.hunt.updLink fun l => { l with buffer := l.buffer ++ [⟨tag, r⟩] } := by
  rw [State.request, if_pos (by simp [State.isRunning, hp]), State.offerRequest, if_pos (by exact hb)]
  exact State.serve_of_replying htx

/-! ### The end of a reply (10, R179) -/

theorem State.replySent_of_out (htx : s.link.tx = none) : s.replySent = s := by
  rw [State.replySent, htx]; rfl

theorem State.replySent_of_some {r : ReplyFrame} (htx : s.link.tx = some r) : s.replySent = s.freePlace.serve := by
  rw [State.replySent, htx]; rfl

end

theorem exec_replySent {s : State} (hd : s.dueStep = none) (h : s.link.tx.isSome = true ∨ s.link.resetOwed = none)
    (hp : s.power = .running) : exec .replySent s = .next s.replySent :=
  State.goesOn_of_none hd h (by rw [State.isHeld, hp]) _

/-- Settles O10: a request command is its request at the port, which takes it by what the buffer holds; REPLY_SENT frees the place,
and serves. -/
theorem theBufferHoldsTwoRequests : Obligations.TheBufferHoldsTwoRequests := by
  refine ⟨fun tag r s hp hb => State.request_of_full hp hb tag r, fun r s hq htx => ?_, fun c w s hc => ?_,
    fun r scope s hp hd ho htx => ?_, fun s hq htx => ?_⟩
  · intro freed
    have hfree : s.freePlace = freed := rfl
    obtain ⟨hidle, hserves⟩ := State.serve_of_free (s := freed) rfl hq.2.1
    rw [exec_replySent hq.2.2 (.inr hq.2.1) hq.1, State.replySent_of_some htx, hfree]
    cases hb : s.link.buffer.tail with
    | nil => exact congrArg _ (hidle hb)
    | cons w ws => exact congrArg _ (hserves w ws hb)
  · have hexec (hd : s.dueStep = none) (h : s.link.tx.isSome = true ∨ s.link.resetOwed = none) (hheld : s.isHeld = false) :
        exec c s = .next (s.request w.tag w.request) :=
      (exec_of_requestOf hc s).trans (State.goesOn_of_none hd h hheld _)
    have hfree (hp : s.power = .running) : s.isHeld = false := by rw [State.isHeld, hp]
    refine ⟨fun hp hd htx hb => ?_, fun hp hd htx hb => ?_, fun hq hport => ?_, fun t hp hd ho => ?_⟩
    · rw [hexec hd (.inl htx) (hfree hp), State.request_of_replying hp htx hb]
      rfl
    · rw [hexec hd (.inl htx) (hfree hp), State.request_of_full hp hb]
    · rw [hexec hq.2.2 (.inr hq.2.1) (hfree hq.1), State.request_of_free hq hport]
    · rw [hexec hd (.inr ho) (by rw [State.isHeld, hp]), State.request_of_startUp hp]
  · rw [exec_replySent hd (.inl (by rw [htx]; rfl)) hp, State.replySent_of_some htx, State.serve_of_owed (s := s.freePlace) ho]
    rfl
  · rw [exec_replySent hq.2.2 (.inr hq.2.1) hq.1, State.replySent_of_out htx]

end Sys2Proof.Machine
end

section
/-! PROOF. The payloads and notices of the control link in bytes (10, R181, R184, R186 to R188, section 10.7): the header, the queries
that change nothing but the link, and FETCH_NOTICE. -/

namespace Sys2Proof.Machine

/-! ### Numbers and codes in bytes (10, section 10.7) -/

theorem beBytes_three (n : Nat) : beBytes 3 n = [byteOf (n / 65536), byteOf (n / 256), byteOf n] := by simp [beBytes]

theorem beBytes_four_bytes (n : Nat) :
    beBytes 4 n = [byteOf (n / 16777216), byteOf (n / 65536), byteOf (n / 256), byteOf n] := by simp [beBytes]

theorem beBytes_eight (n : Nat) : beBytes 8 n = beBytes 4 (n / 4294967296) ++ beBytes 4 n := by
  simp [beBytes, Nat.div_div_eq_div_mul]

/-- A signed number in three bytes is its remainder by 2^24. -/
theorem signedBytes_eq (x : Int) : signedBytes x = beBytes 3 (x % 16777216).toNat := by
  rw [signedBytes, BitVec.toNat_ofInt]; rfl

theorem byteOf_runStateCode (r : RunState) :
    byteOf (runStateCode r) = match r with | .standby => 0 | .hold => 1 | .run => 2 | .halt => 3 := by
  cases r <;> rfl

theorem byteOf_requestedCode (r : Option Target) :
    byteOf (requestedCode r) = match r with | some .standby => 0 | some .hold => 1 | some .run => 2 | none => 0xFF := by
  rcases r with _ | _ | _ | _ <;> rfl

theorem byteOf_syncCode (y : SyncState) :
    byteOf (syncCode y) = match y with | .noSignal => 0 | .seekingIndex => 1 | .checking => 2 | .locked => 3 := by
  cases y <;> rfl

theorem byteOf_sourceCode (x : Source) : byteOf (sourceCode x) = match x with | .player => 0 | .stream => 1 := by
  cases x <;> rfl

theorem byteOf_resetCode (c : ResetCause) :
    byteOf (resetCode c) = match c with | .powerOn => 0 | .resetPin => 1 | .resetFull => 2 | .resetMotion => 3 := by
  cases c <;> rfl

theorem byteOf_directionCode (d : Direction) :
    byteOf (directionCode d) = match d with | .forward => 0 | .backward => 1 := by
  cases d <;> rfl

/-! ### The reply header (10, R181) -/

/-- The flag byte holds the three flags and the run state's code side by side. -/
theorem flagByte_read : ∀ (attention overflow bad : Bool) (code : Fin 4),
    let flags := byteOf (bitAt 0 attention + bitAt 1 overflow + bitAt 2 bad + 16 * code)
    flags.getLsbD 0 = attention ∧ flags.getLsbD 1 = overflow ∧ flags.getLsbD 2 = bad ∧ flags.getLsbD 3 = false ∧
      flags.toNat / 16 = code := by decide

theorem runStateCode_lt (r : RunState) : runStateCode r < 4 := by cases r <;> decide

/-- Settles O8: the header is the model's own, and its flag byte is read back bit by bit. -/
theorem replyHeaderShowsRoomAndFlags : Obligations.ReplyHeaderShowsRoomAndFlags := fun s _ _ =>
  ⟨s.flagByte, rfl, flagByte_read s.attention s.link.overflow s.run.badRequest ⟨runStateCode s.run.state, runStateCode_lt _⟩⟩

/-! ### FETCH_NOTICE (10, R184) -/

theorem State.fetchNotice_of_empty {s : State} (h : s.link.notices = []) :
    s.fetchNotice = (s, accept [0, 0, boolByte s.link.overflow]) := by
  rw [State.fetchNotice, h]; rfl

/-- The oldest notice leaves the queue, and the flag goes with the last one. -/
theorem State.fetchNotice_of_cons {s : State} {n : Notice} {rest : List Notice} (h : s.link.notices = n :: rest) :
    s.fetchNotice =
      (s.updLink fun l => { l with notices := rest, overflow := if rest = [] then false else s.link.overflow },
        accept ([1] ++ noticeBytes n ++ [byteOf rest.length, boolByte s.link.overflow])) := by
  have hdrop : s.link.dropNotice =
      { s.link with notices := rest, overflow := if rest = [] then false else s.link.overflow } := by
    cases rest <;> simp [Link.dropNotice, h]
  rw [State.fetchNotice, h]
  dsimp only
  rw [State.updLink, hdrop, beBytes_one, List.append_assoc]
  rfl

theorem reportExtra_length_le (r : Report) : (reportExtra r).length ≤ 8 := by
  cases r <;> simp [reportExtra, haltExtra, setBytes, speedBytes, placeBytes, signedBytes]

theorem padded_length {k : Nat} {bs : List Byte} (h : bs.length ≤ k) : (padded k bs).length = k := by
  rw [padded, List.length_append, List.length_replicate, Nat.add_sub_cancel' h]

/-- A notice record is 18 bytes (10, section 10.7). -/
theorem noticeBytes_length (n : Notice) : (noticeBytes n).length = 18 := by
  simp [noticeBytes, padded_length (reportExtra_length_le n.report)]

theorem noticeBytes_eq (n : Notice) : noticeBytes n = [byteOf (reportCode n.report), byteOf n.detail] ++
    [byteOf (n.subject / 256), byteOf n.subject] ++ beBytes 4 n.tag.toNat ++ [byteOf (n.angle / 256), byteOf n.angle] ++
    padded 8 (reportExtra n.report) := by
  simp [noticeBytes, tagBytes, beBytes_one, beBytes_two]

/-- Settles O9: the queue by its two cases; a record by its kind, with the codes that its extra field holds. -/
theorem fetchNoticeTakesTheOldest : Obligations.FetchNoticeTakesTheOldest := by
  refine ⟨fun tag s hq hp => ⟨fun n rest h => ?_, fun h => ?_⟩, fun ⟨report, detail, subject, tag, angle⟩ => ?_⟩
  · exact exec_accepted (r := .fetchNotice) rfl hq hp (State.fetchNotice_of_cons (s := s.taken tag _) h) hq.2.2
  · exact exec_refused (r := .fetchNotice) rfl hq hp (State.fetchNotice_of_empty (s := s.taken tag _) h)
  · intro two three four signed mask flag state target halt channel view sync cause source kindAndExtra
    refine ⟨?_, noticeBytes_length _⟩
    have hextra : (byteOf (reportCode report), padded 8 (reportExtra report)) = kindAndExtra := by
      cases report <;> simp only [reportExtra, haltExtra, setBytes, speedBytes, placeBytes, tagBytes, signedBytes_eq, beBytes_one,
        beBytes_two, beBytes_three, beBytes_four_bytes, beBytes_eight]
      case stateFailed aim changing after detail => cases aim <;> cases after <;> rfl
      case halted detail speed peak requested => rcases requested with _ | _ | _ | _ <;> rfl
      case furtherFault detail speed peak requested => rcases requested with _ | _ | _ | _ <;> rfl
      case barFault before detail error compared => cases before <;> rfl
      case driveChange before fault switch actual => cases before <;> rfl
      case syncChange before why angleBefore => cases before <;> cases why <;> rfl
      case starved x history feedStopped => cases x <;> rfl
      case runEnd x history => cases x <;> rfl
      all_goals rfl
    rw [noticeBytes_eq, beBytes_four_bytes, ← hextra]

/-! ### The payloads of the queries (02, R31; 06, R111, R112; 10, R186 to R188) -/

section

variable (s : State)

theorem optionalTag_length (t : Option Tag) : (optionalTag t).length = 5 := by simp [optionalTag]

theorem setBytes_length (m : BarSet) : (setBytes m).length = 8 := beBytes_length 8 _

theorem haltBytes_length (h : Option HaltRecord) : (haltBytes h).length = 12 := by
  cases h <;> simp [haltBytes, speedBytes]

theorem State.statusBytes_length : s.statusBytes.length = 45 := by
  unfold State.statusBytes
  generalize s.referencedSet = mask
  simp [haltBytes_length, optionalTag_length, setBytes_length]

theorem ceilingPlace_length (r : Option CourseRecord) : (ceilingPlace r).length = 3 := by
  unfold ceilingPlace
  split <;> simp

theorem termBytes_length (t : LimitTerm) : (termBytes t).length = 9 := by
  cases t <;> simp [termBytes]

theorem State.planBytes_length : s.planBytes.length = 38 := by
  simp [State.planBytes, termBytes_length, List.length_flatMap, ceilingPlace_length]

/-- The settings field by field. -/
theorem State.settingsBytes_eq : s.settingsBytes =
    [s.machine.pitch, s.machine.indexAngle].flatMap (beBytes 2) ++ [byteOf s.machine.tolerance] ++
      [s.machine.ovStart, s.machine.ovEnd, s.machine.ulStart, s.machine.ulEnd, s.machine.dmax, s.machine.vmax, s.machine.margin,
        s.machine.stopDetect, s.machine.followLimit, s.machine.inPosition, s.machine.settleTimeout, s.machine.energizeTime,
        s.machine.enableTimeout, s.machine.holdDelay].flatMap (beBytes 2) ++
      s.profiles.flatMap (fun p => beBytes 2 p.accel ++ beBytes 2 p.speed ++ [byteOf p.travel, byteOf p.homing] ++
        beBytes 4 p.search ++ beBytes 2 p.zeroOffset) ++
      s.assign.map (fun a => byteOf (a.getD 255)) := by
  have hprofile : profileBytes = fun p => beBytes 2 p.accel ++ beBytes 2 p.speed ++ [byteOf p.travel, byteOf p.homing] ++
      beBytes 4 p.search ++ beBytes 2 p.zeroOffset := funext fun p => by simp [profileBytes, beBytes_one]
  simp [State.settingsBytes, machineBytes, hprofile, beBytes_one]

/-- The status item by item. -/
theorem State.statusBytes_eq : s.statusBytes =
    [byteOf (runStateCode s.run.state), byteOf (requestedCode s.run.requested), s.runFlags] ++ haltBytes s.run.halt ++
      [byteOf (syncCode s.tracker.sync), boolByte s.tracker.stopped] ++ beBytes 2 s.tracker.angle ++
      optionalTag (s.lists.current.map CourseRecord.tag) ++
      [byteOf s.lists.history.length, byteOf s.lists.replay.length, byteOf s.lists.queue.length,
        byteOf (sourceCode s.lists.source), s.listFlags] ++
      beBytes 2 s.run.published ++ beBytes 2 s.run.peak ++ setBytes s.referencedSet ++
      [s.operationFlags, byteOf s.link.notices.length, boolByte s.link.overflow, byteOf (resetCode s.run.resetCause)] := by
  unfold State.statusBytes
  generalize s.referencedSet = mask
  simp [beBytes_one]

/-- The position item by item. -/
theorem State.positionBytes_eq : s.positionBytes =
    presentBytes s.lists.current ++ beBytes 2 s.tracker.angle ++
      [byteOf (directionCode s.tracker.direction), boolByte s.tracker.stopped] ++ beBytes 2 (s.tracker.speed.getD 0) ++
      [boolByte s.tracker.speed.isSome, byteOf (syncCode s.tracker.sync)] ++ beBytes 2 s.lists.behind ++
      beBytes 2 s.lists.ahead := by
  simp [State.positionBytes, speedBytes, beBytes_one]

end

theorem haltBytes_some (h : HaltRecord) : haltBytes (some h) =
    [byteOf (causeCode h.cause), byteOf h.detail, byteOf h.bar] ++ beBytes 4 h.tag.toNat ++ beBytes 2 h.angle ++
      beBytes 2 (h.speed.getD 0) ++ [boolByte h.speed.isSome] := by
  simp [haltBytes, speedBytes, tagBytes, beBytes_one]

theorem presentBytes_player {r : CourseRecord} {c : FeedCursor} {pass : Tag} (h : r.origin = .player c pass) :
    presentBytes (some r) =
      1 :: beBytes 4 r.tag.toNat ++ ([0, byteOf c.step, byteOf c.rep] ++ beBytes 2 c.course ++ beBytes 4 pass.toNat) := by
  simp [presentBytes, h, originBytes, placeBytes, tagBytes, boolByte, beBytes_one, byteOf]

theorem presentBytes_stream {r : CourseRecord} (h : r.origin = .stream) :
    presentBytes (some r) = 1 :: beBytes 4 r.tag.toNat ++ [1, 0, 0, 0, 0, 0, 0, 0, 0] := by
  simp only [presentBytes, h, originBytes, tagBytes]
  rfl

theorem ceilingPlace_some {r : Option CourseRecord} {c : Ceiling} (h : r.bind CourseRecord.ceiling = some c) :
    ceilingPlace r = 1 :: beBytes 2 c.value := by rw [ceilingPlace, h]; rfl

theorem ceilingPlace_none {r : Option CourseRecord} (h : r.bind CourseRecord.ceiling = none) : ceilingPlace r = [0, 0, 0] := by
  rw [ceilingPlace, h]; rfl

/-- The limiting term byte by byte (06, R111). -/
theorem termBytes_eq (t : LimitTerm) : termBytes t = match t with
    | .none => [0, 0, 0, 0, 0, 0, 0, 0, 0]
    | .ceiling j t source => [1, byteOf j, 1] ++ beBytes 4 t.toNat ++ (match source with
        | .vmax => [0, 0] | .cap => [1, 0] | .bar b .overlap => [2, byteOf b] | .bar b .underlap => [3, byteOf b])
    | .tail n => [2, byteOf n, 0, 0, 0, 0, 0, 0, 0] := by
  cases t with
  | none => rfl
  | tail n => rw [termBytes, beBytes_one n]; rfl
  | ceiling j t source =>
    have hsource : beBytes 1 (limitCode source) ++ beBytes 1 (limitBar source) = match source with
        | .vmax => [0, 0] | .cap => [1, 0] | .bar b .overlap => [2, byteOf b] | .bar b .underlap => [3, byteOf b] := by
      rcases source with _ | _ | ⟨b, _ | _⟩ <;> simp only [limitCode, limitBar, beBytes_one] <;> rfl
    rw [termBytes, List.append_assoc, hsource, beBytes_one j]
    rfl

/-! ### The queries (10, R180, R186 to R188) -/

/-- A request of a kind that 10.7 does not name is refused and leaves all but the link. -/
theorem exec_unknownKind (tag : Tag) (kind : Nat) {s : State} (hq : s.Quiet) (hp : s.PortFree) :
    exec (.unknownKind tag kind) s = .next (s.replies tag (.unknown kind) .unknownKind []) :=
  exec_refused (r := .unknown kind) rfl hq hp rfl

/-- Settles O7: each query is answered with its payload, and the payloads item by item with their codes. -/
theorem queriesAnswerAndChangeNothing : Obligations.QueriesAnswerAndChangeNothing := by
  refine ⟨fun tag s hq hp => ⟨?_, ?_, ?_, ?_, ?_⟩, fun tag kind s hq hp => ?_, fun n => ?_, fun s => ?_⟩
  · exact exec_refused (r := .ident) rfl hq hp rfl
  · exact exec_refused (r := .status) (a := accept s.statusBytes) rfl hq hp rfl
  · exact exec_refused (r := .readSettings) (a := accept s.settingsBytes) rfl hq hp rfl
  · exact exec_refused (r := .getPosition) (a := accept s.positionBytes) rfl hq hp rfl
  · exact exec_refused (r := .planReport) (a := accept s.planBytes) rfl hq hp rfl
  · exact ⟨_, exec_unknownKind tag kind hq hp, rfl, rfl, rfl⟩
  · exact ⟨beBytes_one n, beBytes_two n, beBytes_four_bytes n⟩
  · intro two tagOf flag bits m sync
    have hsync : byteOf (syncCode s.tracker.sync) = sync := byteOf_syncCode _
    refine ⟨?_, ⟨s.referencedSet, fun b hb => inSet_barSet _ hb, ?_, s.statusBytes_length⟩, ?_, ?_, s.planBytes_length⟩
    · have hassign : (fun a : Option Nat => byteOf (a.getD 255)) = fun a => match a with | some n => byteOf n | none => 0xFF := by
        funext a; cases a <;> rfl
      rw [s.settingsBytes_eq, hassign] <;> rfl
    · have hhalt : haltBytes s.run.halt = match s.run.halt with
          | some h => [byteOf (causeCode h.cause), byteOf h.detail, byteOf h.bar] ++ tagOf h.tag ++ two h.angle ++
              two (h.speed.getD 0) ++ [flag h.speed.isSome]
          | none => List.replicate 12 0 := by
        cases s.run.halt with
        | none => rfl
        | some h => exact haltBytes_some h
      have hcurrent : optionalTag (s.lists.current.map CourseRecord.tag) = match s.lists.current with
          | some r => 1 :: tagOf r.tag
          | none => [0, 0, 0, 0, 0] := by
        cases s.lists.current <;> rfl
      rw [s.statusBytes_eq, hsync, hhalt, hcurrent, byteOf_runStateCode, byteOf_requestedCode, byteOf_sourceCode,
        byteOf_resetCode] <;> rfl
    · have hpresent : presentBytes s.lists.current = match s.lists.current with
          | none => [0]
          | some r => 1 :: tagOf r.tag ++ (match r.origin with
              | .player c pass => [0, byteOf c.step, byteOf c.rep] ++ two c.course ++ tagOf pass
              | .stream => [1, 0, 0, 0, 0, 0, 0, 0, 0]) := by
        cases s.lists.current with
        | none => rfl
        | some r =>
          cases ho : r.origin with
          | player c pass => exact (presentBytes_player ho).trans (by dsimp only; rw [ho])
          | stream => exact (presentBytes_stream ho).trans (by dsimp only; rw [ho])
      rw [s.positionBytes_eq, hsync, hpresent, byteOf_directionCode] <;> rfl
    · have hplace : (fun k : Nat => ceilingPlace s.lists.forward[k]?) = fun k =>
          match (s.lists.current.toList ++ s.lists.after)[k]?.bind CourseRecord.ceiling with
          | some c => 1 :: two c.value
          | none => [0, 0, 0] := by
        funext k
        split
        next h => exact ceilingPlace_some h
        next h => exact ceilingPlace_none h
      have hterm : termBytes s.planner.term = match s.planner.term with
          | .none => [0, 0, 0, 0, 0, 0, 0, 0, 0]
          | .ceiling j t source => [1, byteOf j, 1] ++ tagOf t ++ (match source with
              | .vmax => [0, 0] | .cap => [1, 0] | .bar b .overlap => [2, byteOf b] | .bar b .underlap => [3, byteOf b])
          | .tail n => [2, byteOf n, 0, 0, 0, 0, 0, 0, 0] := termBytes_eq _
      rw [State.planBytes, hplace, hterm, beBytes_one] <;> rfl

end Sys2Proof.Machine
end

section
/-! PROOF. Supply, the RESET input, release and the start-up (11, R191, R192; 09, R155, R172, R174): what each does to a part that is
held, starting up or neither. -/

namespace Sys2Proof.Machine

/-! ### The hold (11, R191, R192) -/

/-- The straps select 4 Mbit/s by high and low, 2 by low and high, and 1 by two alike (11, R191). -/
theorem strappedRate_eq (rate1 rate0 : Bool) :
    strappedRate rate1 rate0 = if rate1 && !rate0 then 4 else if rate0 && !rate1 then 2 else 1 := by
  cases rate1 <;> cases rate0 <;> rfl

/-- The RESET input begins a hold of its own in a part that is not held (11, R192). -/
theorem State.pinHeld_of_free {s : State} (h : s.isHeld = false) :
    s.pinHeld = s.cleared (.held false) .resetPin .initial s.link.rate := by
  unfold State.pinHeld
  split
  next bySupply hp => simp [State.isHeld, hp] at h
  next => rfl

/-- In a part that is held, the hold keeps its kind and its cause (log 28). -/
theorem State.pinHeld_of_held {s : State} {bySupply : Bool} (h : s.power = .held bySupply) :
    s.pinHeld = s.cleared (.held bySupply) s.run.resetCause .initial s.link.rate := by
  rw [State.pinHeld, h]

/-- Settles O2: `State.cleared` is what supply and the RESET input leave, with the rate of the straps or the rate as it was. -/
theorem powerOnAndPinResetHoldThePart : Obligations.PowerOnAndPinResetHoldThePart := by
  refine ⟨fun rate1 rate0 s => ?_, fun s => ⟨fun hfree => ?_, fun bySupply hheld => ?_⟩⟩
  · rw [← strappedRate_eq]
    rfl
  · exact congrArg Host.Outcome.next (State.pinHeld_of_free hfree)
  · exact congrArg Host.Outcome.next (State.pinHeld_of_held hheld)

/-! ### Release and start-up (11, R192; 09, R155, R172) -/

theorem State.release_of_held {s : State} {bySupply : Bool} (h : s.power = .held bySupply) (levels : Levels) :
    s.release levels = { s with
      power := .startUp (s.now + Config.startUpTime)
      tracker := .initial levels s.now
      run := { s.run with resetCause := if bySupply then .powerOn else .resetPin } } := by
  rw [State.release, h]

theorem State.endStartUp_of_startUp {s : State} {t : Nat} (h : s.power = .startUp t) :
    s.endStartUp = ({ s.advanceTo t with power := .running }.hunt).sendPermit := by
  rw [State.endStartUp, h]

/-- Settles O4: the release of a held part, then the end of its start-up time, whose permit frame tells STOP by the run state because
the part is no longer held. -/
theorem releaseStartsThePart : Obligations.ReleaseStartsThePart := by
  refine ⟨fun levels bySupply s hheld => ?_, fun t s hstart => ?_⟩
  · exact congrArg Host.Outcome.next (State.release_of_held hheld levels)
  · have hexec : exec .startUpEnd s = .next s.endStartUp := rfl
    have hstop : ({ s.advanceTo t with power := .running }.hunt).stopActive = (s.run.state != .run) :=
      State.stopActive_of_free rfl
    rewrite [hexec, State.endStartUp_of_startUp hstart, State.sendPermit, hstop]
    rfl

end Sys2Proof.Machine
end

section
/-! PROOF. The step by the queue: with a command in front, and with none (log 2). -/

namespace Sys2Proof.Machine

/-- The command in front is taken off the queue before it runs, so what it does can depend on the rest alone. -/
theorem step_of_pending_cons {s : State} {c : Instr} {rest : List Instr} (h : s.pending = c :: rest) :
    step s = exec c { s with pending := rest } := by
  rw [step, h]

theorem step_of_pending_nil {s : State} (h : s.pending = []) : step s = .next s.idle := by
  rw [step, h]

/-- Settles O1: the two cases of the queue; the state that idles is the one with its clock moved on. -/
theorem stepTakesTheFrontCommand : Obligations.StepTakesTheFrontCommand := by
  refine ⟨fun c rest s => ?_, fun s hempty => ?_⟩
  · have hfront : ({ s with pending := c :: rest } : State).pending = c :: rest := rfl
    exact step_of_pending_cons hfront
  · have hidle : s.idle = { s with now := s.now + 1 } := rfl
    rw [step_of_pending_nil hempty, hidle]

end Sys2Proof.Machine
end
